-- ==== Sys2Proof/Word.lean ====
section
/-! DEFINITION. The words of the part: bytes, chain values, and the bounds of its counters. -/

namespace Sys2Proof

/-- One byte of a transfer, a frame or a slot. -/
abbrev Byte := BitVec 8

/-- A chain value (R104). -/
abbrev Chain := BitVec 32

/-- The greatest value of a 16-bit counter. -/
def max16 : Nat := 65535

/-- The greatest value of a 32-bit counter, and of a duration field (R45). -/
def max32 : Nat := 4294967295

/-- The greatest value of the elapsed counter and of clock time (R123). -/
def max48 : Nat := 281474976710655

/-- `x` held at `top`: a saturating value (00_scope.md, integer arithmetic words). -/
def saturate (top x : Nat) : Nat := min top x

/-- `x` clamped to `lo..hi` (00_scope.md, integer arithmetic words). -/
def clamp (lo hi x : Int) : Int := max lo (min hi x)

end Sys2Proof
end

