-- ==== Sys2Proof/Syntax.lean ====
section
/-! DEFINITION. The commands the part takes: one constructor for each row of spec/opcode_table.json, with its operands. -/

namespace Sys2Proof

/-- The two reader ports (00_scope.md, block overview). -/
inductive Port where
  | operator
  | consumer
  deriving DecidableEq, Repr

/-- The other port. -/
def Port.other : Port → Port
  | .operator => .consumer
  | .consumer => .operator

/-- One change of a LODGE request as the frame carries it: a setting index and a signed 32-bit value (R174). -/
structure RawPair where
  index : Byte
  value : BitVec 32
  deriving DecidableEq, Repr

/-- The commands. Those of the sample link carry the bytes of their transfer; a request carries its port, its tag and its
parameters as the frame lays them out (R174). -/
inductive Instr where
  -- the sample link and the tracker
  | goodTransfer (bytes : List Byte)
  | failedTransfer (bytes : List Byte)
  | linkTick
  | silentEntry
  | referenceLoss
  | freeRunBoundary
  -- the part's own timers
  | burstExpiry
  | intervalBoundary
  | proposalExpiry (port : Port)
  | releaseCheck
  -- the store and the settings area
  | heldBackGapQueue
  | arbiterGrant
  | recordWriteComplete
  | padFillComplete
  | eraseComplete
  | resetEraseComplete
  | epochWriteComplete
  | areaWriteComplete
  | flushComplete (port : Port)
  -- time, supply and restart
  | elapsedTick
  | supplyGoodFall
  | storeHoldupDone
  | supplyCollapse
  | supplyGoodRise
  | steadinessWaitDone (strap60 : Bool)
  | powerUp
  | retentionLoss
  | resetAssert
  | resetRelease (strap60 : Bool)
  -- the ports
  | readPeriod (port : Port) (clocked : Nat)
  | invalidRequestFrame (port : Port) (bytes : List Byte)
  | status (port : Port) (tag : Byte)
  | readRecords (port : Port) (tag : Byte) (first : BitVec 32) (count : Byte)
  | collect (port : Port) (tag : Byte) (number : BitVec 32)
  | readLive (port : Port) (tag : Byte)
  | readMatrix (port : Port) (tag : Byte)
  | readSettings (port : Port) (tag : Byte) (first last : Byte)
  | lodge (port : Port) (tag : Byte) (pairs : List RawPair)
  | withdraw (port : Port) (tag : Byte)
  | timeSet (port : Port) (tag : Byte) (value : BitVec 64)
  | timeStep (port : Port) (tag : Byte) (value : BitVec 64)
  | timeBadForm (port : Port) (tag : Byte) (form : Byte) (value : BitVec 64)
  | setNotify (port : Port) (tag : Byte) (level : BitVec 16)
  | flush (port : Port) (tag : Byte)
  | restartScanEnd
  | selectPeriodStart (port : Port)
  deriving DecidableEq, Repr

end Sys2Proof
end

