-- ==== Sys2Proof/Machine/Bytes.lean ====
section
/-! DEFINITION. Byte order, check bytes and the chain's CRC: the byte-level helpers of every layout of chapter 11. -/

namespace Sys2Proof.Machine

/-- The `w` bytes of `n`, least significant first (R170). Higher bits of `n` are dropped. -/
def leBytes : Nat → Nat → List Byte
  | 0, _ => []
  | w + 1, n => BitVec.ofNat 8 n :: leBytes w (n / 256)

/-- The `w` bytes of a signed value in two's complement, least significant first (R170). -/
def leSigned (w : Nat) (x : Int) : List Byte := leBytes w (x % (256 ^ w : Nat)).toNat

/-- The number that bytes spell, least significant first (R170). -/
def fromLe : List Byte → Nat
  | [] => 0
  | b :: bs => b.toNat + 256 * fromLe bs

/-- The `w`-byte unsigned field at offset `at'` of a record or frame. -/
def fieldAt (bytes : List Byte) (at' w : Nat) : Nat := fromLe ((bytes.drop at').take w)

/-- A number of `w` bytes read as two's complement (R170). -/
def asSigned (w n : Nat) : Int :=
  if 2 * n < 256 ^ w then (n : Int) else (n : Int) - (256 ^ w : Nat)

/-- The byte at an offset, 0 where the bytes do not reach it. -/
def byteAt (bytes : List Byte) (at' : Nat) : Byte := bytes.getD at' 0

/-- Bytes filled up with 0x00 to a length: bytes that a layout does not use hold 0x00 (R172). -/
def padTo (n : Nat) (bytes : List Byte) : List Byte := bytes ++ List.replicate (n - bytes.length) 0

/-- A bit as a number, at bit position `k` of a packed byte. -/
def bitAt (k : Nat) (b : Bool) : Nat := if b then 2 ^ k else 0

/-- The modulo-256 sum of bytes (R1). -/
def byteSum (bytes : List Byte) : Byte := bytes.foldl (· + ·) 0

/-- The exclusive-or of bytes (R157). -/
def byteXor (bytes : List Byte) : Byte := bytes.foldl (· ^^^ ·) 0

/-- One bit of the reflected CRC with polynomial 0xEDB88320 (R104). -/
def crcBit (c : Chain) : Chain :=
  if c.getLsbD 0 then (c >>> 1) ^^^ 0xEDB88320#32 else c >>> 1

/-- `n` bits of the CRC. -/
def crcBits : Nat → Chain → Chain
  | 0, c => c
  | n + 1, c => crcBits n (crcBit c)

/-- The CRC over one more byte. -/
def crcByte (c : Chain) (b : Byte) : Chain := crcBits 8 (c ^^^ b.setWidth 32)

/-- The 32-bit CRC of R104: initial value and final exclusive-or 0xFFFFFFFF. -/
def crc32 (bytes : List Byte) : Chain := bytes.foldl crcByte 0xFFFFFFFF#32 ^^^ 0xFFFFFFFF#32

/-- The bytes of a record that its chain value covers: all but its own chain field, bytes 5 to 8 (R172). -/
def chainedBytes (record : List Byte) : List Byte := record.take 5 ++ record.drop 9

/-- The chain value of a record after a previous chain value (R104). -/
def chainOf (previous : Chain) (record : List Byte) : Chain :=
  crc32 (leBytes 4 previous.toNat ++ chainedBytes record)

end Sys2Proof.Machine
end

