-- ==== Sys2Proof/Machine/Frames.lean ====
section
/-! DEFINITION. The sample set's transfer (R1, R171) and the request frame's four checks (R157, R174), on bytes alone. -/

namespace Sys2Proof.Machine

/-- R1: a transfer is good when it has 15 bytes and its last is the inverse of the sum of the others. -/
def transferGood (bytes : List Byte) : Bool :=
  bytes.length == 15 && byteAt bytes 14 == ~~~ byteSum (bytes.take 14)

/-- The statuses of a reply (R159). -/
inductive Status where
  | ok | check | length | unknown | range | conflict | backward | limited
  deriving DecidableEq, Repr

/-- The status codes of R174. -/
def Status.code : Status → Byte
  | .ok => 0 | .check => 1 | .length => 2 | .unknown => 3
  | .range => 4 | .conflict => 5 | .backward => 6 | .limited => 7

/-- The constant of each port's check bytes (R157). -/
def portConstant : Port → Byte
  | .operator => 0x4F
  | .consumer => 0xC3

/-- The check byte of a frame whose earlier bytes are given (R157, R174). -/
def frameCheck (p : Port) (earlier : List Byte) : Byte := byteXor earlier ^^^ portConstant p

/-- A request frame: length, code, tag, parameters and check byte (R174). -/
def requestFrame (p : Port) (code tag : Byte) (params : List Byte) : List Byte :=
  let earlier := leBytes 2 (params.length + 5) ++ [code, tag] ++ params
  earlier ++ [frameCheck p earlier]

/-- How many parameter bytes a request code requires (R174). For LODGE it is one count byte and five bytes for each pair
the count names; a LODGE with no parameter byte has no count to name any, and fails. -/
def requiredParams (code : Byte) (params : List Byte) : Option Nat :=
  match code.toNat with
  | 1 => some 0
  | 2 => some 5
  | 3 => some 4
  | 4 => some 0
  | 5 => some 0
  | 6 => some 2
  | 7 => some (1 + 5 * (byteAt params 0).toNat)
  | 8 => some 0
  | 9 => some 9
  | 10 => some 2
  | 11 => some 0
  | _ => none

/-- The parameter bytes of a frame: those between the tag and the check byte. -/
def frameParams (bytes : List Byte) : List Byte := (bytes.drop 4).take (bytes.length - 5)

/-- R157: the first of the four checks that a frame fails, or `none` when it passes all. -/
def frameFailure (p : Port) (bytes : List Byte) : Option Status :=
  let n := bytes.length
  let l := fieldAt bytes 0 2
  if ¬ (5 ≤ l ∧ l ≤ 64 ∧ n = l) then some .length
  else if byteAt bytes (n - 1) ≠ frameCheck p (bytes.take (n - 1)) then some .check
  else
    match requiredParams (byteAt bytes 2) (frameParams bytes) with
    | none => some .unknown
    | some k => if (frameParams bytes).length = k then none else some .length

/-- The parameter bytes of a pair of a LODGE request (R174). -/
def pairBytes (r : RawPair) : List Byte := r.index :: leBytes 4 r.value.toNat

/-- The `n` pairs that parameter bytes spell (R174). -/
def pairsOf : Nat → List Byte → List RawPair
  | 0, _ => []
  | n + 1, bs =>
    { index := byteAt bs 0, value := BitVec.ofNat 32 (fieldAt bs 1 4) } :: pairsOf n (bs.drop 5)

/-- The request that a frame which passes the checks of R157 holds, as the command of its row. -/
def requestOf (p : Port) (bytes : List Byte) : Option Instr :=
  let tag := byteAt bytes 3
  let q := frameParams bytes
  match (byteAt bytes 2).toNat with
  | 1 => some (.status p tag)
  | 2 => some (.readRecords p tag (BitVec.ofNat 32 (fieldAt q 0 4)) (byteAt q 4))
  | 3 => some (.collect p tag (BitVec.ofNat 32 (fieldAt q 0 4)))
  | 4 => some (.readLive p tag)
  | 5 => some (.readMatrix p tag)
  | 6 => some (.readSettings p tag (byteAt q 0) (byteAt q 1))
  | 7 => some (.lodge p tag (pairsOf (byteAt q 0).toNat (q.drop 1)))
  | 8 => some (.withdraw p tag)
  | 9 =>
    let v := BitVec.ofNat 64 (fieldAt q 1 8)
    match (byteAt q 0).toNat with
    | 0 => some (.timeSet p tag v)
    | 1 => some (.timeStep p tag v)
    | _ => some (.timeBadForm p tag (byteAt q 0) v)
  | 10 => some (.setNotify p tag (BitVec.ofNat 16 (fieldAt q 0 2)))
  | 11 => some (.flush p tag)
  | _ => none

/-- The request frame of a request command, by the codes and parameters of R174; `none` for a command that is no request. -/
def frameOf : Instr → Option (List Byte)
  | .status p tag => some (requestFrame p 1 tag [])
  | .readRecords p tag first count => some (requestFrame p 2 tag (leBytes 4 first.toNat ++ [count]))
  | .collect p tag number => some (requestFrame p 3 tag (leBytes 4 number.toNat))
  | .readLive p tag => some (requestFrame p 4 tag [])
  | .readMatrix p tag => some (requestFrame p 5 tag [])
  | .readSettings p tag first last => some (requestFrame p 6 tag [first, last])
  | .lodge p tag pairs =>
    some (requestFrame p 7 tag (BitVec.ofNat 8 pairs.length :: pairs.flatMap pairBytes))
  | .withdraw p tag => some (requestFrame p 8 tag [])
  | .timeSet p tag value => some (requestFrame p 9 tag (0 :: leBytes 8 value.toNat))
  | .timeStep p tag value => some (requestFrame p 9 tag (1 :: leBytes 8 value.toNat))
  | .timeBadForm p tag form value => some (requestFrame p 9 tag (form :: leBytes 8 value.toNat))
  | .setNotify p tag level => some (requestFrame p 10 tag (leBytes 2 level.toNat))
  | .flush p tag => some (requestFrame p 11 tag [])
  | .goodTransfer _ | .failedTransfer _ | .linkTick | .silentEntry | .referenceLoss | .freeRunBoundary | .burstExpiry
  | .intervalBoundary | .proposalExpiry _ | .releaseCheck | .heldBackGapQueue | .arbiterGrant | .recordWriteComplete
  | .padFillComplete | .eraseComplete | .resetEraseComplete | .epochWriteComplete | .areaWriteComplete
  | .flushComplete _ | .elapsedTick | .supplyGoodFall | .storeHoldupDone | .supplyCollapse | .supplyGoodRise
  | .steadinessWaitDone _ | .powerUp | .retentionLoss | .resetAssert | .resetRelease _ | .readPeriod _ _
  | .invalidRequestFrame _ _ | .restartScanEnd | .selectPeriodStart _ => none

end Sys2Proof.Machine
end

