-- ==== Sys2Proof/Config.lean ====
section
/-! DEFINITION. The free values: what the manual leaves open although the part goes on. Each is an opaque constant, so a
claim holds whatever it is. Those with an argument `k` are applied to the counter `freeCount` of the state, so that two uses
are two values. -/

namespace Sys2Proof.Config

/-- The elapsed counter after its greatest value (R123 gives the range and no successor; log 5). -/
opaque elapsedPastMax (k : Nat) : BitVec 48

/-- Clock time at a tick that would take it out of its range (R123; log 6). -/
opaque clockPastMax (k : Nat) : BitVec 48

/-- Which of the records waiting at one moment the store takes next, at the `i`-th choice of the `k`-th such moment
(R78, R105; log 7). -/
opaque takenNext (k i : Nat) : Nat

/-- How many whole slots a record write had written when it was cut short (R117, R129; log 8). -/
opaque wholeSlots (k : Nat) : Nat

/-- The byte that a cut-short write or erase leaves at an address (R117, R129; log 8). -/
opaque tornByte (k address : Nat) : Byte

/-- Whether a cut-short PAD fill had filled a slot (R117, R129; log 8). -/
opaque padFilled (k slot : Nat) : Bool

/-- How many of its damaged blocks an abandoned restart scan had erased (R118, R131; log 9). -/
opaque scanErased (k : Nat) : Nat

/-- Whether the scan tests block `a` before block `b` when their first records carry the same number (R118; log 10). -/
opaque scanBefore (a b : Nat) : Bool

/-- The number of the epoch begun on a blank store when the settings area holds 65,535 (R120; log 11). -/
opaque epochPastMax (k : Nat) : BitVec 16

end Sys2Proof.Config
end

