-- ==== Sys2Proof/Machine/State.lean ====
section
/-! DEFINITION. The state of the part as plain data, block by block, its value at the first power, and the reasons a command
can stop. Every field cites the rule that names it; INVENTORY.md lists them with their reset values. -/

namespace Sys2Proof.Machine

open Sys2Proof

/-! ### Shared kinds of data -/

/-- The phases (00_scope.md, units). -/
inductive Phase where
  | a | b | c
  deriving DecidableEq, Repr

/-- One value for each phase. -/
structure ThreePhase (α : Type) where
  a : α
  b : α
  c : α
  deriving DecidableEq, Repr

/-- A set of phases. -/
structure PhaseSet where
  a : Bool
  b : Bool
  c : Bool
  deriving DecidableEq, Repr

/-- The phase arrangement, setting 12 (00_scope.md). -/
inductive Arrangement where
  | three | single
  deriving DecidableEq, Repr

/-- A time quality (00_scope.md, two clocks). -/
inductive Quality where
  | unset | set
  deriving DecidableEq, Repr

/-- A moment: clock time and elapsed time, in ms, with the time quality then in force. -/
structure Stamp where
  clock : Nat
  elapsed : Nat
  quality : Quality
  deriving DecidableEq, Repr

/-! ### Sample Link Receiver (R2) -/

/-- One sample set: six signed 16-bit converter codes and the front-end status byte (chapter 1.1). -/
structure SampleSet where
  ua : BitVec 16
  ub : BitVec 16
  uc : BitVec 16
  ia : BitVec 16
  ib : BitVec 16
  ic : BitVec 16
  status : Byte
  deriving DecidableEq, Repr

/-- The two marks recorded with each set handed on (R6). -/
structure SetMarks where
  substituted : Bool
  clipped : Bool
  deriving DecidableEq, Repr

/-- The link state (R2). -/
inductive LinkState where
  | running | silent
  deriving DecidableEq, Repr

/-- The receiver (R2). `marks` is newest first. -/
structure Link where
  state : LinkState
  lastGood : SampleSet
  lastNumber : Byte
  rebase : Bool
  silence : Nat
  marks : List SetMarks
  deriving DecidableEq, Repr

/-! ### Cycle Tracker (R8) -/

/-- The tracker states (R8). -/
inductive TrackState where
  | tracking | freeRun | search
  deriving DecidableEq, Repr

/-- The direction of a sign change (R9). -/
inductive Direction where
  | positive | negative
  deriving DecidableEq, Repr

/-- The tracker (R8). `sincePos` and `sinceNeg` are the crossing memory; `setElapsed` and `setClock` are the times at which
the newest set was handed on, which a boundary at that set carries, and `setQuality` is the time quality then in force, with
which that boundary dates an event (R27, R57; log 3). -/
structure Tracker where
  state : TrackState
  ref : Phase
  sinceBoundary : Nat
  lastDir : Option Direction
  sincePos : Option Nat
  sinceNeg : Option Nat
  lowCount : Nat
  lastU : ThreePhase Nat
  nominal : Nat
  cycleMark : Bool
  firstBoundary : Bool
  setElapsed : Nat
  setClock : Nat
  setQuality : Quality
  deriving DecidableEq, Repr

/-! ### Half-Cycle Engine (R17, R27) -/

/-- The half-cycle values of one phase: U½ in dh, I½ in nh, p½ and S½ in ph, and the considered mark (R27). -/
structure PhaseValues where
  u : Nat
  i : Nat
  p : Int
  s : Nat
  considered : Bool
  deriving DecidableEq, Repr

/-- One value set (R27). -/
structure ValueSet where
  elapsed : Nat
  clock : Nat
  n : Nat
  tracker : TrackState
  ref : Phase
  substitutions : Nat
  valid : Bool
  clipped : Bool
  arrangement : Arrangement
  phases : ThreePhase PhaseValues
  totalP : Int
  totalS : Nat
  deriving DecidableEq, Repr

/-- The engine (R17). `history` is newest first. -/
structure Engine where
  history : List SampleSet
  latest : Option ValueSet
  deriving DecidableEq, Repr

/-! ### Event Detector (R34 to R36) and direction fields (R59) -/

/-- The pre-event references, present when the reference mark is TAKEN (R59). -/
structure PowerRef where
  p : Int
  s : Nat
  deriving DecidableEq, Repr

/-- The direction fields (R59). `ref` absent is the mark NO_REFERENCE; `sumD` is D and `count` is c. -/
structure DirectionFields where
  ref : Option PowerRef
  sumD : Int
  count : Nat
  frozen : Bool
  deriving DecidableEq, Repr

/-- The interruption part of a reduction (R34). -/
structure InterruptionPart where
  first : Nat
  last : Option Nat
  entries : Nat
  deriving DecidableEq, Repr

/-- The states of an open reduction context (R34). IDLE is the absence of the context. -/
inductive RedState where
  | dip | interrupted | supplyLost
  deriving DecidableEq, Repr

/-- An open reduction (R34). -/
structure Reduction where
  state : RedState
  start : Stamp
  phases : PhaseSet
  residual : Nat
  residualPhase : Phase
  interruption : Option InterruptionPart
  gapInside : Bool
  clippedInside : Bool
  spannedLoss : Bool
  startedAtLoss : Bool
  dir : DirectionFields
  deriving DecidableEq, Repr

/-- An open swell (R35). IDLE is its absence. -/
structure Swell where
  start : Stamp
  maximum : Nat
  maximumPhase : Phase
  phases : PhaseSet
  clippedInside : Bool
  gapInside : Bool
  endedBySupplyLoss : Bool
  deriving DecidableEq, Repr

/-- An open measurement gap (R36): the gap start and the gap window count. -/
structure OpenGap where
  start : Stamp
  windows : Nat
  deriving DecidableEq, Repr

/-- The measurement-gap context (R36). CLOSED is the absence of `opened`. -/
structure GapContext where
  opened : Option OpenGap
  runCount : Nat
  runStart : Option Stamp
  deriving DecidableEq, Repr

/-- The verdicts (R67). -/
inductive Verdict where
  | undetermined | downstream | upstream
  deriving DecidableEq, Repr

/-- The reasons (R67). -/
inductive Reason where
  | metric | margin | noReference | lowLoad | interruptedOnly
  deriving DecidableEq, Repr

/-- The interruption part of a summary: offset, span and entry count (R46). -/
structure InterruptionSummary where
  offset : Nat
  span : Nat
  entries : Nat
  deriving DecidableEq, Repr

/-- The reduction summary of R46 with the direction fields of R69 and the close elapsed time of R71. -/
structure Summary where
  start : Stamp
  closeClock : Nat
  closeElapsed : Nat
  duration : Nat
  saturated : Bool
  phases : PhaseSet
  residual : Nat
  residualPhase : Phase
  interruption : Option InterruptionSummary
  gapInside : Bool
  clippedInside : Bool
  spannedLoss : Bool
  startedAtLoss : Bool
  arrangement : Arrangement
  verdict : Verdict
  reason : Reason
  ref : Option PowerRef
  count : Nat
  metric : Option Int
  deriving DecidableEq, Repr

/-! ### Direction Estimator (R59) -/

/-- One entry of the pre-event ring (R59). -/
structure RingEntry where
  p : Int
  s : Nat
  deriving DecidableEq, Repr

/-- The ring, newest first, and the skip mark (R59). -/
structure Estimator where
  ring : List RingEntry
  skip : Bool
  deriving DecidableEq, Repr

/-! ### Burst Builder (R71) -/

/-- The builder (R71). EMPTY is an empty member list; the timer is RUNNING while its expiry time is present. Members stand in
the order their reductions closed. -/
structure Builder where
  members : List Summary
  timer : Option Nat
  deriving DecidableEq, Repr

/-! ### Interval Aggregator (R87) -/

/-- The sums of one phase over an interval (R87, R90). -/
structure PhaseSums where
  squares : Nat
  minimum : Nat
  maximum : Nat
  deriving DecidableEq, Repr

/-- The running sums of an interval (R87). -/
structure Sums where
  phases : ThreePhase PhaseSums
  p : Int
  n : Nat
  cycles : Nat
  sets : Nat
  deriving DecidableEq, Repr

/-- The six interval flags (R93). -/
structure IntervalFlags where
  eventOverlap : Bool
  gapInside : Bool
  supplyLost : Bool
  timeAdjusted : Bool
  short : Bool
  afterCommit : Bool
  deriving DecidableEq, Repr

/-- An interval that is open or frozen (R87). -/
structure Interval where
  start : Stamp
  minutes : Nat
  arrangement : Arrangement
  sums : Sums
  flags : IntervalFlags
  deriving DecidableEq, Repr

/-- The cause of a freeze (R87). -/
inductive FreezeCause where
  | supply | reset
  deriving DecidableEq, Repr

/-- The freeze record (R87). -/
structure Freeze where
  clock : Nat
  elapsed : Nat
  cause : FreezeCause
  deriving DecidableEq, Repr

/-- The aggregator (R87). It is FROZEN while the freeze record is present, and otherwise OPEN while it has an interval. -/
structure Aggregator where
  interval : Option Interval
  freeze : Option Freeze
  lastClosed : Option Nat
  nextBoundary : Nat
  skip : Bool
  deriving DecidableEq, Repr

/-! ### Settings Bank (R139 to R142) -/

/-- Settings 1 to 12 (R139), in the order of their indexes. -/
structure Settings where
  udin : Nat
  inom : Nat
  td : Nat
  ts : Nat
  ti : Nat
  h : Nat
  minutes : Nat
  burstWindow : Nat
  retentionDays : Nat
  margin : Nat
  loadFloor : Nat
  arrangement : Nat
  deriving DecidableEq, Repr

/-- One change of a proposal: an index and a value (R142). -/
structure Change where
  index : Nat
  value : Int
  deriving DecidableEq, Repr

/-- One change as committed: index, old value and new value (R149). -/
structure Changed where
  index : Nat
  old : Int
  new : Int
  deriving DecidableEq, Repr

/-- A proposal in a slot (R142). -/
structure Proposal where
  changes : List Change
  lodged : Nat
  expiry : Nat
  deriving DecidableEq, Repr

/-- The record mark of the last change (R140). -/
inductive RecordMark where
  | queued (number : Nat)
  | heldBack
  deriving DecidableEq, Repr

/-- The last change held by the settings area (R140). -/
structure LastChange where
  changes : List Changed
  mark : RecordMark
  deriving DecidableEq, Repr

/-- The reset note (R113): old and new epoch numbers, and the old epoch's last sequence number and chain value. -/
structure ResetNote where
  oldEpoch : Nat
  newEpoch : Nat
  oldLast : Nat
  oldChain : Chain
  deriving DecidableEq, Repr

/-- The settings area (R140). -/
structure Area where
  values : Settings
  epoch : Nat
  lastChange : Option LastChange
  lastApplied : Nat
  strap : Option Bool
  note : Option ResetNote
  resetMark : Bool
  deriving DecidableEq, Repr

/-- One write of the area: the fields it names, the others absent (R140). -/
structure AreaWrite where
  values : Option Settings := none
  epoch : Option Nat := none
  lastChange : Option (Option LastChange) := none
  lastApplied : Option Nat := none
  strap : Option Bool := none
  note : Option (Option ResetNote) := none
  resetMark : Option Bool := none
  deriving DecidableEq, Repr

/-- The Settings Bank: the settings in force, the two slots, the area and its writes not yet complete, the first of them in
flight (R139, R140, R142). -/
structure Bank where
  inForce : Settings
  operatorSlot : Option Proposal
  consumerSlot : Option Proposal
  area : Area
  areaWrites : List AreaWrite
  deriving DecidableEq, Repr

/-! ### Records (R101) -/

/-- The held-back counts by kind (R102). -/
structure HeldCounts where
  reduction : Nat
  burst : Nat
  swell : Nat
  interval : Nat
  gap : Nat
  settings : Nat
  timestep : Nat
  restart : Nat
  deriving DecidableEq, Repr

/-- The causes of a GAP record (R101). -/
inductive GapCause where
  | measurement | heldBack
  deriving DecidableEq, Repr

/-- A SWELL record (R79). -/
structure SwellRecord where
  start : Stamp
  closeClock : Nat
  closeElapsed : Nat
  duration : Nat
  saturated : Bool
  maximum : Nat
  maximumPhase : Phase
  phases : PhaseSet
  arrangement : Arrangement
  clippedInside : Bool
  gapInside : Bool
  endedBySupplyLoss : Bool
  deriving DecidableEq, Repr

/-- The three voltages of one phase in an INTERVAL record (R92). -/
structure VoltSummary where
  agg : Nat
  minimum : Nat
  maximum : Nat
  deriving DecidableEq, Repr

/-- An INTERVAL record (R92). A phase that is not considered, or whose N is 0, has no voltages. -/
structure IntervalRecord where
  startClock : Nat
  quality : Quality
  endClock : Nat
  minutes : Nat
  openTime : Nat
  arrangement : Arrangement
  n : Nat
  volts : ThreePhase (Option VoltSummary)
  meanP : Option Int
  frequency : Option Nat
  operatorMark : Nat
  consumerMark : Nat
  flags : IntervalFlags
  deriving DecidableEq, Repr

/-- A GAP record (R55, R112). -/
structure GapRecord where
  cause : GapCause
  startClock : Nat
  quality : Quality
  endClock : Nat
  duration : Nat
  windows : Nat
  counts : HeldCounts
  deriving DecidableEq, Repr

/-- A SETTINGS record (R149). -/
structure SettingsRecord where
  stamp : Stamp
  changes : List Changed
  restated : Bool
  deriving DecidableEq, Repr

/-- A TIMESTEP record (R127). -/
structure TimestepRecord where
  initial : Bool
  port : Port
  before : Nat
  after : Nat
  elapsed : Nat
  quality : Quality
  deriving DecidableEq, Repr

/-- The kinds of restart (R133). -/
inductive RestartKind where
  | cold | warm | line
  deriving DecidableEq, Repr

/-- A RESTART record (R137). -/
structure RestartRecord where
  kind : RestartKind
  stamp : Stamp
  warning : Option Stamp
  hertz60 : Bool
  retentionLost : Bool
  matrixRebuilt : Bool
  marksRecovered : Bool
  tornDiscarded : Bool
  strapChanged : Bool
  holdupIncomplete : Bool
  deriving DecidableEq, Repr

/-- An EPOCH record (R115). -/
structure EpochRecord where
  stamp : Stamp
  note : ResetNote
  deriving DecidableEq, Repr

/-- The content of a record of each kind (R101). A BURST holds its members. -/
inductive Record where
  | reduction (r : Summary)
  | swell (r : SwellRecord)
  | burst (members : List Summary)
  | interval (r : IntervalRecord)
  | gap (r : GapRecord)
  | settings (r : SettingsRecord)
  | timestep (r : TimestepRecord)
  | restart (r : RestartRecord)
  | epoch (r : EpochRecord)
  deriving DecidableEq, Repr

/-! ### Record Store (R102) -/

/-- A record in the commit queue with its sequence number (R102). -/
structure Entry where
  number : Nat
  record : Record
  deriving DecidableEq, Repr

/-- A USED block of the block table (R102). A block that is not listed is BLANK. -/
structure UsedBlock where
  block : Nat
  first : Nat
  last : Nat
  deriving DecidableEq, Repr

/-- The store states (R102). -/
inductive StoreState where
  | normal | held | resetting
  deriving DecidableEq, Repr

/-- The store's pending operation (R102, R107). -/
inductive PendingOp where
  | padFill
  | eraseBlock (block : Nat)
  | writeHead
  | resetErase (block : Nat)
  | epochWrite
  deriving DecidableEq, Repr

/-- The operation the array is doing (R106, R109, R114, R115). A record write holds the bytes being written. -/
inductive InFlight where
  | recordWrite (bytes : List Byte) (chain : Chain)
  | padFill
  | eraseBlock (block : Nat)
  | resetErase (block : Nat)
  | epochWrite (bytes : List Byte) (chain : Chain)
  deriving DecidableEq, Repr

/-- Where an epoch reset stands (R113 to R115, R120). -/
inductive ResetPhase where
  | drain
  | noteWrite
  | erasing (note : ResetNote) (next : Nat)
  | epochWrite (r : EpochRecord)
  deriving DecidableEq, Repr

/-- An open held-back episode (R102, R111). -/
structure Episode where
  counts : HeldCounts
  start : Stamp
  lastClock : Nat
  lastElapsed : Nat
  deriving DecidableEq, Repr

/-- The Record Store (R102). `array` is the nonvolatile array as a canonical list of byte address and byte, where an address
that is not listed is blank. -/
structure Store where
  array : List Host.Cell
  blocks : List UsedBlock
  wpBlock : Nat
  wpSlot : Nat
  oldest : Option Nat
  newest : Nat
  newestChain : Chain
  queue : List Entry
  state : StoreState
  pendingOp : Option PendingOp
  inFlight : Option InFlight
  resetPhase : Option ResetPhase
  episode : Option Episode
  releaseCheck : Option Nat
  epoch : Nat
  scanned : Bool
  lastServed : Port
  deriving DecidableEq, Repr

/-! ### Clock and Supply Monitor (R123, chapter 8.3) -/

/-- The monitor's states (chapter 8.3). -/
inductive MonitorState where
  | run | holdup | retain | restarting
  deriving DecidableEq, Repr

/-- The monitor (R123, R128 to R133, R138). In RESTARTING, `restart` is the kind of the restart under way, and its absence
means that the reset line holds the part. `waitEnd` is the end of the steadiness wait. -/
structure Monitor where
  state : MonitorState
  elapsed : Nat
  counterStopped : Bool
  offset : Int
  quality : Quality
  smallStepUsed : Bool
  retentionValid : Bool
  outageNote : Option Stamp
  holdupComplete : Bool
  waitEnd : Option Nat
  supplyGood : Bool
  resetHigh : Bool
  strap60 : Bool
  restart : Option RestartKind
  strapChanged : Bool
  lastKind : RestartKind
  deriving DecidableEq, Repr

/-! ### Reader ports (R154) -/

/-- A port's request in process (R154): a waiting read or a flush target, with the tag its reply echoes. -/
inductive InProcess where
  | read (tag : Byte) (first count : Nat)
  | flush (tag : Byte) (target : Nat)
  deriving DecidableEq, Repr

/-- The reply states (R154). -/
inductive ReplyState where
  | none | preparing | ready
  deriving DecidableEq, Repr

/-- A select period in progress (R155, R160): it clocks out the reply that was READY as it began, or zeros, or it is ignored
whole because the part took no requests as it began or since. -/
inductive SelectPeriod where
  | reply (bytes : List Byte)
  | zeros
  | ignored
  deriving DecidableEq, Repr

/-- One reader port (R154). -/
structure PortState where
  requestBuffer : List Byte
  inProcess : Option InProcess
  reply : List Byte
  replyState : ReplyState
  overrun : Bool
  abandoned : Bool
  checkFailures : Nat
  lengthFailures : Nat
  mark : Nat
  notify : Nat
  attention : Bool
  period : Option SelectPeriod
  clockedOut : List Byte
  deriving DecidableEq, Repr

/-! ### The whole part -/

/-- The state of the part and the queue of waiting commands. `freeCount` numbers the uses of free values. -/
structure State where
  link : Link
  tracker : Tracker
  engine : Engine
  reduction : Option Reduction
  swell : Option Swell
  gap : GapContext
  estimator : Estimator
  builder : Builder
  matrix : List Nat
  aggregator : Aggregator
  store : Store
  bank : Bank
  monitor : Monitor
  operator : PortState
  consumer : PortState
  freeCount : Nat
  pending : List Instr
  deriving DecidableEq, Repr

/-- The faults: none. No event of the manual stops the part, so the type is empty and no command can end in a fault. -/
inductive Fault where
  deriving DecidableEq, Repr

/-- The refusals. -/
inductive Refusal where
  /-- Raised by the dispatcher for a row that has no meaning yet. Safe: the model stops where the part goes on. -/
  | notModelled (mnemonic : String)
  deriving DecidableEq, Repr

/-! ### The first power -/

/-- The zero set (R2). -/
def zeroSet : SampleSet := { ua := 0, ub := 0, uc := 0, ia := 0, ib := 0, ic := 0, status := 0 }

/-- The receiver's restart values (R2). -/
def Link.restart : Link :=
  { state := .running, lastGood := zeroSet, lastNumber := 0, rebase := true, silence := 0, marks := [] }

/-- The tracker's restart values for a nominal cycle (R8). -/
def Tracker.restart (nominal : Nat) : Tracker :=
  { state := .search, ref := .a, sinceBoundary := 0, lastDir := none, sincePos := none, sinceNeg := none,
    lowCount := 0, lastU := { a := 0, b := 0, c := 0 }, nominal := nominal, cycleMark := false,
    firstBoundary := true, setElapsed := 0, setClock := 0, setQuality := .unset }

/-- The engine's restart values (R17). -/
def Engine.restart : Engine := { history := [], latest := none }

/-- The measurement-gap context after a COLD restart (R37). -/
def GapContext.cold : GapContext := { opened := none, runCount := 0, runStart := none }

/-- The Estimator after any restart (R59). -/
def Estimator.restart : Estimator := { ring := [], skip := false }

/-- The builder after a COLD restart (R71). -/
def Builder.cold : Builder := { members := [], timer := none }

/-- The matrix with every cell 0 (R83, R84). -/
def matrixClear : List Nat := List.replicate 31 0

/-- The aggregator after a COLD restart (R87). -/
def Aggregator.cold : Aggregator :=
  { interval := none, freeze := none, lastClosed := none, nextBoundary := 0, skip := false }

/-- The defaults of settings 1 to 12 (R139). -/
def Settings.default : Settings :=
  { udin := 11585, inom := 4096, td := 9000, ts := 11000, ti := 500, h := 200, minutes := 10,
    burstWindow := 5000, retentionDays := 186, margin := 500, loadFloor := 50, arrangement := 3 }

/-- The settings area at first power (R140). -/
def Area.factory : Area :=
  { values := .default, epoch := 0, lastChange := none, lastApplied := 0, strap := none, note := none, resetMark := false }

/-- The bank at first power (R140, R142). -/
def Bank.factory : Bank :=
  { inForce := .default, operatorSlot := none, consumerSlot := none, area := .factory, areaWrites := [] }

/-- The store at first power: a blank array, and the volatile items as a scan of a blank array leaves them (R102; log 4,
log 12). -/
def Store.factory : Store :=
  { array := [], blocks := [], wpBlock := 0, wpSlot := 0, oldest := none, newest := 0, newestChain := 0, queue := [],
    state := .normal, pendingOp := none, inFlight := none, resetPhase := none, episode := none, releaseCheck := none,
    epoch := 0, scanned := false, lastServed := .consumer }

/-- The monitor at first power: RETAIN with the retention-valid flag clear (R130; log 4). -/
def Monitor.factory : Monitor :=
  { state := .retain, elapsed := 0, counterStopped := false, offset := 0, quality := .unset, smallStepUsed := false,
    retentionValid := false, outageNote := none, holdupComplete := false, waitEnd := none, supplyGood := false,
    resetHigh := true, strap60 := false, restart := none, strapChanged := false, lastKind := .cold }

/-- A port with no request, no reply and a released line (R154, R160); notify level 1 (R134). -/
def PortState.factory : PortState :=
  { requestBuffer := [], inProcess := none, reply := [], replyState := .none, overrun := false, abandoned := false,
    checkFailures := 0, lengthFailures := 0, mark := 0, notify := 1, attention := false, period := none, clockedOut := [] }

/-- The part at its first power (R130): RETAIN, retention not valid, factory settings area and array, no command waiting. The
values that the manual does not state are those log 4 names. -/
def State.reset : State :=
  { link := .restart, tracker := .restart 192, engine := .restart, reduction := none, swell := none, gap := .cold,
    estimator := .restart, builder := .cold, matrix := matrixClear, aggregator := .cold, store := .factory,
    bank := .factory, monitor := .factory, operator := .factory, consumer := .factory, freeCount := 0, pending := [] }

end Sys2Proof.Machine
end

