-- ==== Sys2Proof/Machine/Operands.lean ====
section
/-! DEFINITION. How the parts of a command and of the state are read: values by phase, settings by index, the channels of a
sample set. -/

namespace Sys2Proof.Machine

/-! ### By phase -/

/-- The value of a phase. -/
def ThreePhase.get {α : Type} (v : ThreePhase α) : Phase → α
  | .a => v.a
  | .b => v.b
  | .c => v.c

/-- A value for each phase, computed from the phase. -/
def ThreePhase.build {α : Type} (f : Phase → α) : ThreePhase α := { a := f .a, b := f .b, c := f .c }

/-- Whether a phase is in a set. -/
def PhaseSet.has (s : PhaseSet) : Phase → Bool
  | .a => s.a
  | .b => s.b
  | .c => s.c

/-- The set of the phases that pass a test. -/
def PhaseSet.where' (f : Phase → Bool) : PhaseSet := { a := f .a, b := f .b, c := f .c }

/-- The union of two sets of phases. -/
def PhaseSet.union (s t : PhaseSet) : PhaseSet := { a := s.a || t.a, b := s.b || t.b, c := s.c || t.c }

/-- Some considered phase passes the test (R38). -/
def anyIn (considered : PhaseSet) (test : Phase → Bool) : Bool :=
  (considered.a && test .a) || (considered.b && test .b) || (considered.c && test .c)

/-- Every considered phase passes the test (R38). -/
def allIn (considered : PhaseSet) (test : Phase → Bool) : Bool :=
  (! considered.a || test .a) && (! considered.b || test .b) && (! considered.c || test .c)

/-- The considered phases, in letter order. -/
def PhaseSet.toList (s : PhaseSet) : List Phase := [Phase.a, .b, .c].filter s.has

/-- The considered phases of an arrangement: A, B and C under THREE, A alone under SINGLE (00_scope.md). -/
def Arrangement.considered : Arrangement → PhaseSet
  | .three => { a := true, b := true, c := true }
  | .single => { a := true, b := false, c := false }

/-- The lowest value among the considered phases with its phase, the lowest-lettered on a tie (R41). -/
def lowestOf (considered : PhaseSet) (f : Phase → Nat) : Nat × Phase :=
  let first := (f .a, Phase.a)
  let second := if considered.b && decide (f .b < first.1) then (f .b, Phase.b) else first
  if considered.c && decide (f .c < second.1) then (f .c, Phase.c) else second

/-- The highest value among the considered phases with its phase, the lowest-lettered on a tie (R50). -/
def highestOf (considered : PhaseSet) (f : Phase → Nat) : Nat × Phase :=
  let first := (f .a, Phase.a)
  let second := if considered.b && decide (first.1 < f .b) then (f .b, Phase.b) else first
  if considered.c && decide (second.1 < f .c) then (f .c, Phase.c) else second

/-! ### Sample sets -/

/-- The voltage code of a phase (chapter 1.1). -/
def SampleSet.voltage (s : SampleSet) : Phase → Int
  | .a => s.ua.toInt
  | .b => s.ub.toInt
  | .c => s.uc.toInt

/-- The current code of a phase (chapter 1.1). -/
def SampleSet.current (s : SampleSet) : Phase → Int
  | .a => s.ia.toInt
  | .b => s.ib.toInt
  | .c => s.ic.toInt

/-- The overrange mark of a phase's voltage channel: bits 0 to 2 of the status byte (R171). -/
def SampleSet.overrange (s : SampleSet) : Phase → Bool
  | .a => s.status.getLsbD 0
  | .b => s.status.getLsbD 1
  | .c => s.status.getLsbD 2

/-- The overrange mark of a phase's current channel: bits 3 to 5 of the status byte (R171). No rule acts on it: R6 reads the
voltage channels' marks alone. -/
def SampleSet.currentOverrange (s : SampleSet) : Phase → Bool
  | .a => s.status.getLsbD 3
  | .b => s.status.getLsbD 4
  | .c => s.status.getLsbD 5

/-- The sample set that the bytes of a good transfer hold, by the positions of R171. -/
def sampleSetOf (bytes : List Byte) : SampleSet :=
  { ua := BitVec.ofNat 16 (fieldAt bytes 1 2), ub := BitVec.ofNat 16 (fieldAt bytes 3 2),
    uc := BitVec.ofNat 16 (fieldAt bytes 5 2), ia := BitVec.ofNat 16 (fieldAt bytes 7 2),
    ib := BitVec.ofNat 16 (fieldAt bytes 9 2), ic := BitVec.ofNat 16 (fieldAt bytes 11 2),
    status := byteAt bytes 13 }

/-! ### Settings by index -/

/-- The arrangement that setting 12 names: 1 is SINGLE, 3 is THREE (R139). -/
def Settings.phaseArrangement (s : Settings) : Arrangement := if s.arrangement = 1 then .single else .three

/-- The value of a standing setting by its index (R139); 0 for an index that is no standing setting. -/
def Settings.value (s : Settings) : Nat → Nat
  | 1 => s.udin
  | 2 => s.inom
  | 3 => s.td
  | 4 => s.ts
  | 5 => s.ti
  | 6 => s.h
  | 7 => s.minutes
  | 8 => s.burstWindow
  | 9 => s.retentionDays
  | 10 => s.margin
  | 11 => s.loadFloor
  | 12 => s.arrangement
  | _ => 0

/-- The settings with one standing setting changed (R147); an index that is no standing setting changes nothing. -/
def Settings.put (s : Settings) (index value : Nat) : Settings :=
  match index with
  | 1 => { s with udin := value }
  | 2 => { s with inom := value }
  | 3 => { s with td := value }
  | 4 => { s with ts := value }
  | 5 => { s with ti := value }
  | 6 => { s with h := value }
  | 7 => { s with minutes := value }
  | 8 => { s with burstWindow := value }
  | 9 => { s with retentionDays := value }
  | 10 => { s with margin := value }
  | 11 => { s with loadFloor := value }
  | 12 => { s with arrangement := value }
  | _ => s

/-- A standing value lies in the range of R139 for its index. One-shot settings and other indexes have their own checks. -/
def standingInRange (index : Nat) (v : Int) : Bool :=
  match index with
  | 1 => decide (4000 ≤ v ∧ v ≤ 16000)
  | 2 => decide (1000 ≤ v ∧ v ≤ 16000)
  | 3 => decide (5000 ≤ v ∧ v ≤ 9500)
  | 4 => decide (10500 ≤ v ∧ v ≤ 15000)
  | 5 => decide (100 ≤ v ∧ v ≤ 1000)
  | 6 => decide (0 ≤ v ∧ v ≤ 500)
  | 7 => decide (v ∈ [1, 3, 5, 10, 15, 30, 60])
  | 8 => decide (0 ≤ v ∧ v ≤ 60000)
  | 9 => decide (7 ≤ v ∧ v ≤ 366)
  | 10 => decide (100 ≤ v ∧ v ≤ 5000)
  | 11 => decide (10 ≤ v ∧ v ≤ 2000)
  | 12 => decide (v = 1 ∨ v = 3)
  | _ => false

end Sys2Proof.Machine
end

