-- ==== Sys2Proof/Machine/Flags.lean ====
section
/-! DEFINITION. The packed bytes: the codes of chapter 11 and every flag byte of the records, the live view and the replies. -/

namespace Sys2Proof.Machine

open Sys2Proof

/-! ### Codes (R173, R175) -/

/-- A = 0, B = 1, C = 2 (R173). -/
def Phase.code : Phase → Nat
  | .a => 0
  | .b => 1
  | .c => 2

/-- A phase set: bit 0 for A, bit 1 for B, bit 2 for C (R173). -/
def PhaseSet.code (s : PhaseSet) : Nat := bitAt 0 s.a + bitAt 1 s.b + bitAt 2 s.c

/-- The arrangement bit is 1 for SINGLE (R173). -/
def Arrangement.bit : Arrangement → Bool
  | .three => false
  | .single => true

/-- The quality bit is 1 for SET (R172). -/
def Quality.bit : Quality → Bool
  | .unset => false
  | .set => true

/-- 0 UNDETERMINED, 1 DOWNSTREAM, 2 UPSTREAM (R173). -/
def Verdict.code : Verdict → Nat
  | .undetermined => 0
  | .downstream => 1
  | .upstream => 2

/-- 0 METRIC, 1 MARGIN, 2 NO_REFERENCE, 3 LOW_LOAD, 4 INTERRUPTED_ONLY (R173). -/
def Reason.code : Reason → Nat
  | .metric => 0
  | .margin => 1
  | .noReference => 2
  | .lowLoad => 3
  | .interruptedOnly => 4

/-- 0 TRACKING, 1 FREE_RUN, 2 SEARCH (R175). -/
def TrackState.code : TrackState → Nat
  | .tracking => 0
  | .freeRun => 1
  | .search => 2

/-- 0 NORMAL, 1 HELD, 2 RESETTING (R175). -/
def StoreState.code : StoreState → Nat
  | .normal => 0
  | .held => 1
  | .resetting => 2

/-- 0 COLD, 1 WARM, 2 LINE (R175). -/
def RestartKind.code : RestartKind → Nat
  | .cold => 0
  | .warm => 1
  | .line => 2

/-- 0 IDLE, 1 DIP, 2 INTERRUPTED, 3 SUPPLY_LOST (R175). -/
def redStateCode : Option Reduction → Nat
  | none => 0
  | some r =>
    match r.state with
    | .dip => 1
    | .interrupted => 2
    | .supplyLost => 3

/-- A small number as a byte. Bits that no layout of R172 to R175 names are 0 (log 43). -/
def packed (n : Nat) : Byte := BitVec.ofNat 8 n

/-- A phase, a phase set and the arrangement: bits 1 to 0, 4 to 2, and 5 (R173). -/
def phasesByte (p : Phase) (s : PhaseSet) (single : Bool) : Byte :=
  packed (p.code + 4 * s.code + bitAt 5 single)

/-- The tracker byte: state in bits 1 to 0, reference phase in bits 3 to 2 (R175). -/
def trackerByte (t : TrackState) (p : Phase) : Byte := packed (t.code + 4 * p.code)

/-! ### Flag bytes of the records (R173) -/

/-- The flags byte of a REDUCTION record. -/
def Summary.flagsByte (r : Summary) : Byte :=
  packed (bitAt 0 r.gapInside + bitAt 1 r.clippedInside + bitAt 2 r.spannedLoss + bitAt 3 r.startedAtLoss
    + bitAt 4 r.saturated + bitAt 5 r.interruption.isSome + bitAt 6 r.metric.isSome)

/-- The direction byte of a REDUCTION record: verdict in bits 1 to 0, reason in bits 6 to 4. -/
def Summary.directionByte (r : Summary) : Byte := packed (r.verdict.code + 16 * r.reason.code)

/-- The flags byte of a SWELL record; the last argument is shift saturated. -/
def SwellRecord.flagsByte (r : SwellRecord) (shiftSaturated : Bool) : Byte :=
  packed (bitAt 0 r.clippedInside + bitAt 1 r.gapInside + bitAt 2 r.endedBySupplyLoss + bitAt 3 r.saturated
    + bitAt 4 shiftSaturated)

/-- The flags byte of a BURST record. -/
def burstFlagsByte (spanSaturated shiftSaturated single : Bool) : Byte :=
  packed (bitAt 0 spanSaturated + bitAt 1 shiftSaturated + bitAt 5 single)

/-- The flags byte of an INTERVAL record; bit 6 is the arrangement. -/
def IntervalFlags.byte (f : IntervalFlags) (single : Bool) : Byte :=
  packed (bitAt 0 f.eventOverlap + bitAt 1 f.gapInside + bitAt 2 f.supplyLost + bitAt 3 f.timeAdjusted
    + bitAt 4 f.short + bitAt 5 f.afterCommit + bitAt 6 single)

/-- The form and port byte of a TIMESTEP record. -/
def TimestepRecord.formByte (r : TimestepRecord) : Byte :=
  packed (bitAt 0 r.initial + bitAt 1 (r.port == .consumer))

/-- The flags byte of a RESTART record. -/
def RestartRecord.flagsByte (r : RestartRecord) : Byte :=
  packed (bitAt 0 r.retentionLost + bitAt 1 r.matrixRebuilt + bitAt 2 r.marksRecovered + bitAt 3 r.tornDiscarded
    + bitAt 4 r.strapChanged + bitAt 5 r.holdupIncomplete + bitAt 6 r.hertz60
    + bitAt 7 ((r.warning.map fun w => w.quality.bit).getD false))

/-- The interval flags all clear (R87). -/
def IntervalFlags.clear : IntervalFlags :=
  { eventOverlap := false, gapInside := false, supplyLost := false, timeAdjusted := false, short := false,
    afterCommit := false }

/-! ### Flags of the replies (R174) -/

/-- STARTED LATER, bit 2. -/
def flagStartedLater : Nat := 4
/-- EMPTY STORE, bit 3. -/
def flagEmptyStore : Nat := 8
/-- CLAMPED, bit 4. -/
def flagClamped : Nat := 16
/-- HELD, bit 5. -/
def flagHeld : Nat := 32
/-- NO VALUES, bit 6. -/
def flagNoValues : Nat := 64

/-- The flags byte of a reply: OVERRUN in bit 0 and ABANDONED in bit 1 beside the request's own flags (R158, R174). -/
def replyFlags (overrun abandoned : Bool) (own : Nat) : Byte := packed (bitAt 0 overrun + bitAt 1 abandoned + own)

end Sys2Proof.Machine
end

