-- ==== Sys2Proof/Machine/Ops.lean ====
section
/-! DEFINITION. The named operations over the whole state that every block uses: the clock, the ports, the settings in force,
and the counter of free values. -/

namespace Sys2Proof.Machine

open Sys2Proof

/-! ### Time (R123) -/

/-- Clock time: the elapsed count plus the clock offset (R123). -/
def State.clock (s : State) : Nat := ((s.monitor.elapsed : Int) + s.monitor.offset).toNat

/-- The present moment: clock time, elapsed time and the quality in force. -/
def State.now (s : State) : Stamp :=
  { clock := s.clock, elapsed := s.monitor.elapsed, quality := s.monitor.quality }

/-- The difference of two elapsed times as a 32-bit duration, saturating (R45). -/
def durationOf (start finish : Nat) : Nat := saturate max32 (finish - start)

/-- Whether a duration saturates (R45). -/
def durationSaturates (start finish : Nat) : Bool := decide (max32 < finish - start)

/-! ### The supply monitor -/

/-- The part is measuring and takes requests (chapter 8.3). -/
def State.running (s : State) : Bool := s.monitor.state == .run

/-- The state with a change made to the monitor. -/
def State.onMonitor (s : State) (f : Monitor → Monitor) : State := { s with monitor := f s.monitor }

/-! ### Settings in force -/

/-- The arrangement in force (setting 12). -/
def State.arrangement (s : State) : Arrangement := s.bank.inForce.phaseArrangement

/-- The considered phases in force. -/
def State.considered (s : State) : PhaseSet := s.arrangement.considered

/-! ### Ports -/

/-- The state of a port. -/
def State.port (s : State) : Port → PortState
  | .operator => s.operator
  | .consumer => s.consumer

/-- The state with one port replaced. -/
def State.setPort (s : State) (p : Port) (t : PortState) : State :=
  match p with
  | .operator => { s with operator := t }
  | .consumer => { s with consumer := t }

/-- The state with a change made to one port. -/
def State.onPort (s : State) (p : Port) (f : PortState → PortState) : State := s.setPort p (f (s.port p))

/-- The state with the same change made to both ports. -/
def State.onPorts (s : State) (f : PortState → PortState) : State :=
  { s with operator := f s.operator, consumer := f s.consumer }

/-- The proposal slot of a port. -/
def Bank.slot (b : Bank) : Port → Option Proposal
  | .operator => b.operatorSlot
  | .consumer => b.consumerSlot

/-- The bank with the slot of a port replaced. -/
def Bank.setSlot (b : Bank) (p : Port) (slot : Option Proposal) : Bank :=
  match p with
  | .operator => { b with operatorSlot := slot }
  | .consumer => { b with consumerSlot := slot }

/-! ### Free values -/

/-- The number of the next use of a free value. -/
def State.freeIndex (s : State) : Nat := s.freeCount

/-- One free value has been used. -/
def State.useFree (s : State) : State := { s with freeCount := s.freeCount + 1 }

/-- The list in an order chosen by `pick`: the `i`-th choice takes the element at `pick i`, counted round the rest. -/
def pickOrder {α : Type} (pick : Nat → Nat) : Nat → List α → List α
  | 0, rest => rest
  | _ + 1, [] => []
  | n + 1, x :: rest =>
    let i := pick n % (rest.length + 1)
    (x :: rest).getD i x :: pickOrder pick n ((x :: rest).eraseIdx i)

/-! ### Event contexts as the other blocks read them (R58) -/

/-- The reduction or the swell context is open (R90). -/
def State.eventOpen (s : State) : Bool := s.reduction.isSome || s.swell.isSome

/-- The measurement-gap context is OPEN. -/
def State.gapOpen (s : State) : Bool := s.gap.opened.isSome

end Sys2Proof.Machine
end

