-- ==== Sys2Proof/Machine/Records.lean ====
section
/-! DEFINITION. Records: their sizes, their bytes (R101, R172, R173), and what the store reads back from stored bytes. -/

namespace Sys2Proof.Machine

open Sys2Proof

/-! ### Clock shift and burst figures (R77, R173) -/

/-- The clock offset at the close minus the clock offset at the start: each clock time is its elapsed time plus the offset
then in force (R173). -/
def clockShift (start : Stamp) (closeClock closeElapsed : Nat) : Int :=
  ((closeClock : Int) - closeElapsed) - ((start.clock : Int) - start.elapsed)

/-- The clock shift field, clamped to 24 bits signed (R173). -/
def shiftField (shift : Int) : Int := clamp (-8388607) 8388607 shift

/-- Shift saturated: the shift was clamped (R173). -/
def shiftSaturated (shift : Int) : Bool := decide (shiftField shift ≠ shift)

/-- The last member of a burst whose first is given. -/
def lastMember (first : Summary) (rest : List Summary) : Summary := rest.getLast?.getD first

/-- The span duration of a burst, before saturation: last close minus first start on elapsed time (R77). -/
def spanOf (first : Summary) (rest : List Summary) : Nat :=
  (lastMember first rest).closeElapsed - first.start.elapsed

/-- The position of the worst member, counted from 1, with that member: the lowest residual, the earliest on a tie (R77). -/
def worstFrom (position : Nat) (best : Nat × Summary) : List Summary → Nat × Summary
  | [] => best
  | m :: rest =>
    worstFrom (position + 1) (if m.residual < best.2.residual then (position, m) else best) rest

/-- The worst member of a burst whose first member is given (R77). -/
def worstMember (first : Summary) (rest : List Summary) : Nat × Summary := worstFrom 2 (1, first) rest

/-! ### Kinds and sizes (R101, R172) -/

/-- The slots of a BURST of `n` members: 3 for 2 to 5, 4 for 6 to 8 (R101). -/
def burstSlots (n : Nat) : Nat := if n ≤ 5 then 3 else 4

/-- The slots of a SETTINGS record of `n` changes: 1 + ceil(n / 3) (R101). -/
def settingsSlots (n : Nat) : Nat := 1 + (n + 2) / 3

/-- The size of a record in slots (R101). -/
def Record.slots : Record → Nat
  | .reduction _ => 2
  | .swell _ => 1
  | .burst members => burstSlots members.length
  | .interval _ => 2
  | .gap _ => 2
  | .settings r => settingsSlots r.changes.length
  | .timestep _ => 1
  | .restart _ => 1
  | .epoch _ => 1

/-- The kind code of a record (R172). -/
def Record.kindCode : Record → Nat
  | .reduction _ => 1
  | .swell _ => 2
  | .burst _ => 3
  | .interval _ => 4
  | .gap _ => 5
  | .settings _ => 6
  | .timestep _ => 7
  | .restart r =>
    match r.kind with
    | .cold => 8
    | .warm => 9
    | .line => 10
  | .epoch _ => 11

/-- The time quality in a record's header (R172). -/
def Record.quality : Record → Quality
  | .reduction r => r.start.quality
  | .swell r => r.start.quality
  | .burst members => (members.head?.map fun m => m.start.quality).getD .unset
  | .interval r => r.quality
  | .gap r => r.quality
  | .settings r => r.stamp.quality
  | .timestep r => r.quality
  | .restart r => r.stamp.quality
  | .epoch r => r.stamp.quality

/-- The kind-specific bit 2 of a header: a RESTART record sets it when the warning clock time is present (R172). -/
def Record.kindBit : Record → Bool
  | .restart r => r.warning.isSome
  | _ => false

/-! ### Bodies (R173) -/

/-- A REDUCTION's body. -/
def reductionBody (r : Summary) : List Byte :=
  leBytes 6 r.start.clock ++ leBytes 6 r.start.elapsed ++ leBytes 6 r.closeClock ++ leBytes 4 r.duration
    ++ leBytes 2 r.residual ++ [phasesByte r.residualPhase r.phases r.arrangement.bit, r.flagsByte, r.directionByte]
    ++ leBytes 4 ((r.interruption.map (·.offset)).getD 0) ++ leBytes 4 ((r.interruption.map (·.span)).getD 0)
    ++ leBytes 2 ((r.interruption.map (·.entries)).getD 0)
    ++ leSigned 3 ((r.ref.map (·.p)).getD 0) ++ leBytes 3 ((r.ref.map (·.s)).getD 0)
    ++ leBytes 4 r.count ++ leSigned 2 (r.metric.getD 0)

/-- A SWELL's body. -/
def swellBody (r : SwellRecord) : List Byte :=
  let shift := clockShift r.start r.closeClock r.closeElapsed
  leBytes 6 r.start.elapsed ++ leBytes 6 r.closeClock ++ leBytes 4 r.duration ++ leSigned 3 (shiftField shift)
    ++ leBytes 2 r.maximum
    ++ [phasesByte r.maximumPhase r.phases r.arrangement.bit, r.flagsByte (shiftSaturated shift)]

/-- One member of a BURST: start offset, duration, and the packed 3-byte field (R77, R173). It carries the member's verdict and,
against R70's words, no reason, and, against R136's words, no interruption span (log 35). -/
def memberBytes (spanStart : Nat) (m : Summary) : List Byte :=
  leBytes 4 (saturate max32 (m.start.elapsed - spanStart)) ++ leBytes 4 m.duration
    ++ leBytes 3 (m.residual + 2 ^ 15 * m.residualPhase.code + bitAt 17 m.interruption.isSome + 2 ^ 18 * m.verdict.code)

/-- A BURST's body. -/
def burstBody : List Summary → List Byte
  | [] => []
  | first :: rest =>
    let final := lastMember first rest
    let span := spanOf first rest
    let shift := clockShift first.start final.closeClock final.closeElapsed
    leBytes 6 first.start.clock ++ leBytes 6 first.start.elapsed ++ leBytes 6 final.closeClock
      ++ leBytes 4 (saturate max32 span) ++ leSigned 3 (shiftField shift)
      ++ [packed (rest.length + 1 + 16 * (worstMember first rest).1),
          burstFlagsByte (decide (max32 < span)) (shiftSaturated shift) first.arrangement.bit]
      ++ (first :: rest).flatMap (memberBytes first.start.elapsed)

/-- The three voltages of a phase; an absent field holds 0 (R170). -/
def voltBytes (v : Option VoltSummary) : List Byte :=
  leBytes 2 ((v.map (·.agg)).getD 0) ++ leBytes 2 ((v.map (·.minimum)).getD 0) ++ leBytes 2 ((v.map (·.maximum)).getD 0)

/-- An INTERVAL's body. -/
def intervalBody (r : IntervalRecord) : List Byte :=
  leBytes 6 r.startClock ++ leBytes 6 r.endClock ++ leBytes 4 r.openTime ++ leBytes 1 r.minutes
    ++ [r.flags.byte r.arrangement.bit] ++ leBytes 4 r.n
    ++ voltBytes r.volts.a ++ voltBytes r.volts.b ++ voltBytes r.volts.c
    ++ leSigned 3 (r.meanP.getD 0) ++ leBytes 3 (r.frequency.getD 0)
    ++ leBytes 4 r.operatorMark ++ leBytes 4 r.consumerMark

/-- The eight held-back counts in the order of R173. -/
def HeldCounts.toList (c : HeldCounts) : List Nat :=
  [c.reduction, c.burst, c.swell, c.interval, c.gap, c.settings, c.timestep, c.restart]

/-- A GAP's body. -/
def gapBody (r : GapRecord) : List Byte :=
  leBytes 1 (match r.cause with | .measurement => 0 | .heldBack => 1)
    ++ leBytes 6 r.startClock ++ leBytes 6 r.endClock ++ leBytes 4 r.duration ++ leBytes 4 r.windows
    ++ r.counts.toList.flatMap (leBytes 2)

/-- One change of a SETTINGS record. -/
def changedBytes (c : Changed) : List Byte := leBytes 1 c.index ++ leSigned 4 c.old ++ leSigned 4 c.new

/-- The slots of changes: three to a slot, each slot filled up with 0x00. -/
def changeSlots : Nat → List Changed → List Byte
  | 0, _ => []
  | _ + 1, [] => []
  | n + 1, c :: cs => padTo 32 (((c :: cs).take 3).flatMap changedBytes) ++ changeSlots n ((c :: cs).drop 3)

/-- A SETTINGS record's body: the first slot is filled up before the changes begin in the second. The restated byte is 1 for a
restated record and 0 for any other (log 50). -/
def settingsBody (r : SettingsRecord) : List Byte :=
  padTo 23 (leBytes 6 r.stamp.clock ++ leBytes 6 r.stamp.elapsed ++ leBytes 1 r.changes.length
    ++ [packed (bitAt 0 r.restated)])
    ++ changeSlots r.changes.length r.changes

/-- The step field of a TIMESTEP record: clock after minus clock before, for an INITIAL set clamped to 32 bits signed
(R173). -/
def TimestepRecord.stepField (r : TimestepRecord) : Int :=
  clamp (-2147483648) 2147483647 ((r.after : Int) - r.before)

/-- A TIMESTEP's body. -/
def timestepBody (r : TimestepRecord) : List Byte :=
  [r.formByte] ++ leBytes 6 r.before ++ leBytes 6 r.after ++ leBytes 6 r.elapsed ++ leSigned 4 r.stepField

/-- The outage length of a RESTART record: elapsed count minus the warning's, saturating (R137). -/
def RestartRecord.outage (r : RestartRecord) : Nat :=
  (r.warning.map fun w => durationOf w.elapsed r.stamp.elapsed).getD 0

/-- A RESTART's body. -/
def restartBody (r : RestartRecord) : List Byte :=
  leBytes 6 r.stamp.clock ++ leBytes 6 r.stamp.elapsed ++ leBytes 6 ((r.warning.map (·.clock)).getD 0)
    ++ leBytes 4 r.outage ++ [r.flagsByte]

/-- An EPOCH's body. -/
def epochBody (r : EpochRecord) : List Byte :=
  leBytes 6 r.stamp.clock ++ leBytes 2 r.note.oldEpoch ++ leBytes 4 r.note.oldLast
    ++ leBytes 4 r.note.oldChain.toNat ++ leBytes 2 r.note.newEpoch

/-- The body of a record, from byte 9 onward (R173). -/
def Record.body : Record → List Byte
  | .reduction r => reductionBody r
  | .swell r => swellBody r
  | .burst members => burstBody members
  | .interval r => intervalBody r
  | .gap r => gapBody r
  | .settings r => settingsBody r
  | .timestep r => timestepBody r
  | .restart r => restartBody r
  | .epoch r => epochBody r

/-- Byte 0 of a record: kind code, time quality, kind-specific bit, size minus 1 (R172). -/
def Record.firstByte (r : Record) : Byte :=
  packed (16 * r.kindCode + bitAt 3 r.quality.bit + bitAt 2 r.kindBit + (r.slots - 1))

/-- The bytes of a record in slot order (R172). -/
def Record.bytes (r : Record) (number : Nat) (chain : Chain) : List Byte :=
  padTo (32 * r.slots) ([r.firstByte] ++ leBytes 4 number ++ leBytes 4 chain.toNat ++ r.body)

/-- The chain value of a record written after a previous chain value (R104): its own chain field is left out, so it may be
computed on the record with any chain. -/
def Record.chainAfter (r : Record) (number : Nat) (previous : Chain) : Chain :=
  chainOf previous (r.bytes number 0)

/-! ### Stored records, as read back from the array -/

/-- A record found in the array: its number, its chain field and its bytes. -/
structure Stored where
  number : Nat
  chain : Chain
  bytes : List Byte
  deriving DecidableEq, Repr

/-- The kind code in a record's bytes. -/
def Stored.code (r : Stored) : Nat := (byteAt r.bytes 0).toNat / 16

/-- The size in slots that the first bytes of a record should have for their kind, if the kind is one of R172: for a BURST by
the member count, for a SETTINGS record by the change count. -/
def sizeForKind (bytes : List Byte) : Option Nat :=
  match (byteAt bytes 0).toNat / 16 with
  | 1 => some 2
  | 2 => some 1
  | 3 =>
    let n := (byteAt bytes 34).toNat % 16
    if 2 ≤ n ∧ n ≤ 8 then some (burstSlots n) else none
  | 4 => some 2
  | 5 => some 2
  | 6 =>
    let n := (byteAt bytes 21).toNat
    if 1 ≤ n ∧ n ≤ 8 then some (settingsSlots n) else none
  | 7 => some 1
  | 8 => some 1
  | 9 => some 1
  | 10 => some 1
  | 11 => some 1
  | _ => none

/-- R172: the record that bytes starting at a slot hold, when the slot holds a well-formed record header and the record
ends within the bytes. -/
def storedAt (bytes : List Byte) : Option Stored :=
  let size := (byteAt bytes 0).toNat % 4 + 1
  let number := fieldAt bytes 1 4
  if sizeForKind bytes = some size ∧ number ≠ 0 ∧ 32 * size ≤ bytes.length then
    some { number := number, chain := BitVec.ofNat 32 (fieldAt bytes 5 4), bytes := bytes.take (32 * size) }
  else none

/-- The clock end time of a stored record (R101), at the place R173 gives its kind. -/
def Stored.clockEnd (r : Stored) : Nat :=
  match r.code with
  | 1 => fieldAt r.bytes 21 6
  | 2 => fieldAt r.bytes 15 6
  | 3 => fieldAt r.bytes 21 6
  | 4 => fieldAt r.bytes 15 6
  | 5 => fieldAt r.bytes 16 6
  | 7 => fieldAt r.bytes 16 6
  | _ => fieldAt r.bytes 9 6

/-- The chain of a stored record verifies against a previous chain value (R104). -/
def Stored.chainsFrom (r : Stored) (previous : Chain) : Bool := chainOf previous r.bytes == r.chain

/-- The `k`-th change of a stored SETTINGS record (R173). -/
def Stored.changeAt (r : Stored) (k : Nat) : Changed :=
  let at' := 32 * (1 + k / 3) + 9 * (k % 3)
  { index := fieldAt r.bytes at' 1, old := asSigned 4 (fieldAt r.bytes (at' + 1) 4),
    new := asSigned 4 (fieldAt r.bytes (at' + 5) 4) }

/-- The changes of a stored SETTINGS record. -/
def Stored.changes (r : Stored) : List Changed := (List.range (byteAt r.bytes 21).toNat).map r.changeAt

end Sys2Proof.Machine
end

