-- ==== Sys2Proof/Machine/Array.lean ====
section
/-! DEFINITION. The nonvolatile array (R100, R172): a canonical list of byte address and byte, in which an address that is not
listed is blank. -/

namespace Sys2Proof.Machine

open Sys2Proof

/-- The array's content. -/
abbrev Memory := List Host.Cell

/-- What an unlisted address reads as: an erased byte (R172; log 12). -/
def blankByte : Byte := 0xFF

/-- The byte at an address. -/
def Memory.read : Memory → Nat → Byte
  | [], _ => blankByte
  | (x, v) :: rest, a => if x = a then v else Memory.read rest a

/-- The array with one byte written, in canonical form: writing a blank byte removes the entry. -/
def Memory.write : Memory → Nat → Byte → Memory
  | [], a, v => if v = blankByte then [] else [(a, v)]
  | (x, w) :: rest, a, v =>
    if a < x then (if v = blankByte then (x, w) :: rest else (a, v) :: (x, w) :: rest)
    else if x = a then (if v = blankByte then rest else (a, v) :: rest)
    else (x, w) :: Memory.write rest a v

/-- Every listed address lies above a bound, addresses rise, and no listed byte is blank. -/
def Memory.wfAbove : Nat → Memory → Bool
  | _, [] => true
  | bound, (x, v) :: rest => decide (bound ≤ x) && decide (v ≠ blankByte) && Memory.wfAbove (x + 1) rest

/-- The canonical form. -/
def Memory.wf (m : Memory) : Bool := Memory.wfAbove 0 m

/-- The array with bytes written from an address on. -/
def Memory.writeBytes (m : Memory) (a : Nat) : List Byte → Memory
  | [] => m
  | v :: vs => Memory.writeBytes (m.write a v) (a + 1) vs

/-- The `n` bytes from an address on. -/
def Memory.readBytes (m : Memory) (a n : Nat) : List Byte := (List.range n).map fun i => m.read (a + i)

/-- The array with the bytes of a range blank. -/
def Memory.erase (m : Memory) (a n : Nat) : Memory :=
  m.filter fun cell => decide (cell.1 < a) || decide (a + n ≤ cell.1)

/-- The array with every byte of a range replaced by a function of its address. -/
def Memory.fill (m : Memory) (a n : Nat) (f : Nat → Byte) : Memory :=
  m.writeBytes a ((List.range n).map fun i => f (a + i))

/-! ### Slots and blocks (R100) -/

/-- The bytes of a slot. -/
def slotBytes : Nat := 32

/-- The slots of a block. -/
def blockSlots : Nat := 128

/-- The blocks of the array. -/
def blockCount : Nat := 1024

/-- The bytes of a block. -/
def blockBytes : Nat := blockSlots * slotBytes

/-- The byte address of a slot of a block. -/
def slotAddress (block slot : Nat) : Nat := block * blockBytes + slot * slotBytes

/-- The block after a block, in circular order (R100). -/
def nextBlock (block : Nat) : Nat := (block + 1) % blockCount

/-- The block before a block, in circular order. -/
def previousBlock (block : Nat) : Nat := (block + (blockCount - 1)) % blockCount

/-- The part of the array that lies in a block. -/
def Memory.block (m : Memory) (block : Nat) : Memory :=
  m.filter fun cell => decide (cell.1 / blockBytes = block)

/-- The array with a block erased. -/
def Memory.eraseBlock (m : Memory) (block : Nat) : Memory := m.erase (slotAddress block 0) blockBytes

/-- The blocks that are not blank, in rising order: those in which a byte is listed (R118). -/
def Memory.candidates (m : Memory) : List Nat := (m.map fun cell => cell.1 / blockBytes).dedup

/-- The 32 bytes of a slot. -/
def Memory.slot (m : Memory) (block slot : Nat) : List Byte := m.readBytes (slotAddress block slot) slotBytes

/-- A slot is blank: 0xFF in all 32 bytes (R172). -/
def slotBlank (bytes : List Byte) : Bool := bytes.all (· == blankByte)

/-- A slot holds a PAD marker: 0x00 in all 32 bytes (R172). -/
def slotPad (bytes : List Byte) : Bool := bytes.all (· == 0)

/-- The record at a slot of a block, if its header is well formed and it does not cross the block's end (R100, R172). -/
def Memory.recordAt (m : Memory) (block slot : Nat) : Option Stored :=
  storedAt (m.readBytes (slotAddress block slot) (min 128 ((blockSlots - slot) * slotBytes)))

/-! ### Walking a block (R118, R119) -/

/-- Where a walk stops (R119). -/
inductive WalkEnd where
  | blank (slot : Nat)
  | blockEnd
  | torn
  deriving DecidableEq, Repr

/-- The records accepted from a slot on, after a record already accepted: PAD markers are skipped, and each record's number
is one more than the one before it and its chain value verifies against it (R119). The first argument bounds the slots left. -/
def Memory.walkFrom (m : Memory) (block : Nat) : Nat → Nat → Stored → List Stored × WalkEnd
  | 0, _, _ => ([], .blockEnd)
  | fuel + 1, slot, before =>
    if blockSlots ≤ slot then ([], .blockEnd)
    else
      let here := m.slot block slot
      if slotBlank here then ([], .blank slot)
      else if slotPad here then m.walkFrom block fuel (slot + 1) before
      else
        match m.recordAt block slot with
        | none => ([], .torn)
        | some r =>
          if r.number = before.number + 1 ∧ r.chainsFrom before.chain then
            let later := m.walkFrom block fuel (slot + r.bytes.length / slotBytes) r
            (r :: later.1, later.2)
          else ([], .torn)

/-- The walk of a block from its first slot, when that holds a well-formed record header (R118): the records accepted, the
first among them, and where the walk stops. -/
def Memory.walkBlock (m : Memory) (block : Nat) : Option (Stored × List Stored × WalkEnd) :=
  let here := m.block block
  match here.recordAt block 0 with
  | none => none
  | some first =>
    let later := here.walkFrom block blockSlots (first.bytes.length / slotBytes) first
    some (first, later.1, later.2)

/-- The records of a block, in slot order. -/
def Memory.blockRecords (m : Memory) (block : Nat) : List Stored :=
  match m.walkBlock block with
  | none => []
  | some (first, rest, _) => first :: rest

end Sys2Proof.Machine
end

