-- ==== Sys2Proof/Machine/Matrix.lean ====
section
/-! DEFINITION. The Classification Matrix (R80 to R84): the cell of each record and its count. -/

namespace Sys2Proof.Machine

open Sys2Proof

/-- The row of a reduction: R-a to R-d are 0 to 3 and R-e is 4; the interruption part is tested first (R80). -/
def reductionRow (interrupted : Bool) (residual : Nat) : Nat :=
  if interrupted then 4
  else if 8500 ≤ residual then 0
  else if 7000 ≤ residual then 1
  else if 5000 ≤ residual then 2
  else 3

/-- The column of a reduction by its duration in ms, counted from 0 (R80). -/
def reductionColumn (duration : Nat) : Nat :=
  if duration < 100 then 0
  else if duration < 400 then 1
  else if duration < 2000 then 2
  else if duration < 20000 then 3
  else 4

/-- The cell of a reduction, in the order of R85. -/
def reductionCell (interrupted : Bool) (residual duration : Nat) : Nat :=
  5 * reductionRow interrupted residual + reductionColumn duration

/-- The cell of a swell, in the order of R85 (R81). -/
def swellCell (maximum duration : Nat) : Nat :=
  25 + 3 * (if 13000 ≤ maximum then 0 else 1) + (if duration < 400 then 0 else if duration < 2000 then 1 else 2)

/-- The cell that a finalized record falls in, or `none` for a kind that is not counted (R80 to R82). A BURST falls by its
worst member and its whole span. -/
def Record.cell : Record → Option Nat
  | .reduction r => some (reductionCell r.interruption.isSome r.residual r.duration)
  | .burst (first :: rest) =>
    let worst := (worstMember first rest).2
    some (reductionCell worst.interruption.isSome worst.residual (saturate max32 (spanOf first rest)))
  | .burst [] => none
  | .swell r => some (swellCell r.maximum r.duration)
  | .interval _ | .gap _ | .settings _ | .timestep _ | .restart _ | .epoch _ => none

/-- The matrix with one added to a cell, saturating at 4,294,967,295 (R82). -/
def bumpCell (cells : List Nat) (i : Nat) : List Nat := cells.modify i fun n => saturate max32 (n + 1)

/-- R82: a finalized record is counted once. -/
def countRecord (cells : List Nat) (r : Record) : List Nat :=
  match r.cell with
  | none => cells
  | some i => bumpCell cells i

/-- The cell of a stored record, read from its classifying fields (R84), or `none` for a kind that is not counted. -/
def Stored.cell (r : Stored) : Option Nat :=
  match r.code with
  | 1 => some (reductionCell ((byteAt r.bytes 34).getLsbD 5) (fieldAt r.bytes 31 2) (fieldAt r.bytes 27 4))
  | 2 => some (swellCell (fieldAt r.bytes 28 2) (fieldAt r.bytes 21 4))
  | 3 =>
    let worst := (byteAt r.bytes 34).toNat / 16
    let member := fieldAt r.bytes (36 + 11 * (worst - 1) + 8) 3
    some (reductionCell (member.testBit 17) (member % 2 ^ 15) (fieldAt r.bytes 27 4))
  | _ => none

/-- R84: the matrix rebuilt from the stored records, in store order. -/
def rebuiltMatrix (records : List Stored) : List Nat :=
  records.foldl (fun cells r => match r.cell with | none => cells | some i => bumpCell cells i) matrixClear

end Sys2Proof.Machine
end

