-- ==== Sys2Proof/Machine/Store.lean ====
section
/-! DEFINITION. The Record Store's shared operations: numbering, the commit queue, held-back records, release, the pending
operation and what starts it, HELD, and the epoch reset (R103 to R116). -/

namespace Sys2Proof.Machine

open Sys2Proof

/-! ### Numbers and the queue (R102, R103) -/

/-- The entries the commit queue holds at most (R105). -/
def queueCapacity : Nat := 6

/-- Newest assigned: newest committed plus the queue count (R102). -/
def Store.newestAssigned (t : Store) : Nat := t.newest + t.queue.length

/-- Newest queued: newest assigned when the queue is not empty and newest committed when it is (R122). -/
def Store.newestQueued (t : Store) : Nat := if t.queue.isEmpty then t.newest else t.newestAssigned

/-- The queue has room and a number is left (R105, R112). -/
def Store.hasRoom (t : Store) : Bool := decide (t.queue.length < queueCapacity) && decide (t.newestAssigned < max32)

/-- The store with a record queued under the next number (R103). -/
def Store.enqueue (t : Store) (r : Record) : Store :=
  { t with queue := t.queue ++ [{ number := t.newestAssigned + 1, record := r }] }

/-! ### Held-back records (R111, R112) -/

/-- No record held back. -/
def HeldCounts.zero : HeldCounts :=
  { reduction := 0, burst := 0, swell := 0, interval := 0, gap := 0, settings := 0, timestep := 0, restart := 0 }

/-- One more of a 16-bit count, saturating (R102). -/
def bump16 (n : Nat) : Nat := saturate max16 (n + 1)

/-- The counts with one added for the kind of a record (R111). An EPOCH record is never held back (R102). -/
def HeldCounts.add (c : HeldCounts) : Record → HeldCounts
  | .reduction _ => { c with reduction := bump16 c.reduction }
  | .burst _ => { c with burst := bump16 c.burst }
  | .swell _ => { c with swell := bump16 c.swell }
  | .interval _ => { c with interval := bump16 c.interval }
  | .gap _ => { c with gap := bump16 c.gap }
  | .settings _ => { c with settings := bump16 c.settings }
  | .timestep _ => { c with timestep := bump16 c.timestep }
  | .restart _ => { c with restart := bump16 c.restart }
  | .epoch _ => c

/-- The sum of the eight counts (R122). -/
def HeldCounts.total (c : HeldCounts) : Nat := c.toList.foldl (· + ·) 0

/-- R111: a record is counted and discarded at a moment; the first one opens the episode. -/
def Store.holdBack (t : Store) (now : Stamp) (r : Record) : Store :=
  let e : Episode := t.episode.getD
    { counts := .zero, start := now, lastClock := now.clock, lastElapsed := now.elapsed }
  let e' : Episode := { e with counts := e.counts.add r, lastClock := now.clock, lastElapsed := now.elapsed }
  { t with episode := some e' }

/-- The conditions of R105 under which a record is queued. -/
def Store.accepts (t : Store) : Bool := t.state == .normal && t.episode.isNone && t.hasRoom

/-- R105: a record handed over is queued or held back. -/
def Store.take (t : Store) (now : Stamp) (r : Record) : Store :=
  if t.accepts then t.enqueue r else t.holdBack now r

/-- The GAP record of an episode (R112). -/
def Episode.gapRecord (e : Episode) : GapRecord :=
  { cause := .heldBack, startClock := e.start.clock, quality := e.start.quality, endClock := e.lastClock,
    duration := durationOf e.start.elapsed e.lastElapsed, windows := 0, counts := e.counts }

/-- R112: the episode is OPEN and its GAP record can be queued. -/
def Store.gapDue (t : Store) : Bool := t.state == .normal && t.episode.isSome && t.hasRoom

/-- R112: the GAP record of the open episode is queued and the episode closes; without the conditions nothing happens. -/
def Store.queueGap (t : Store) : Store :=
  match t.episode with
  | none => t
  | some e => if t.gapDue then { t.enqueue (.gap e.gapRecord) with episode := none } else t

/-! ### Release (R109) -/

/-- R109: a record with a number and a clock end time is released by both marks, or by age once the clock is SET. -/
def State.released (s : State) (number clockEnd : Nat) : Bool :=
  (decide (number ≤ s.operator.mark) && decide (number ≤ s.consumer.mark))
    || (s.monitor.quality == .set
        && decide ((clockEnd : Int) < (s.clock : Int) - (s.bank.inForce.retentionDays : Int) * 86400000))

/-- The entry of a block in the block table; absent when the block is BLANK (R102). -/
def Store.used (t : Store) (block : Nat) : Option UsedBlock := t.blocks.find? fun u => u.block == block

/-- R109: a block is releasable when it is BLANK or every record in it is released. -/
def State.releasable (s : State) (block : Nat) : Bool :=
  (s.store.used block).isNone
    || (Memory.blockRecords s.store.array block).all fun r => s.released r.number r.clockEnd

/-- The block that the write position must enter next (R106). -/
def Store.blockAhead (t : Store) : Nat := nextBlock t.wpBlock

/-! ### The pending operation (R102, R106, R109, R113 to R115) -/

/-- The slots left in the current block from the write position (R106). -/
def Store.slotsLeft (t : Store) : Nat := blockSlots - t.wpSlot

/-- The queue head fits in the slots left (R106). -/
def Store.headFits (t : Store) : Bool :=
  match t.queue with
  | [] => false
  | e :: _ => decide (e.record.slots ≤ t.slotsLeft)

/-- What the queue head asks of the array (R106, R109): its write, a PAD fill of the slots left, or the erase of the block
ahead when that is USED. The PAD fill comes first also as the store leaves a HELD that the restart scan entered with slots left in
the current block (R106, R110; log 38). -/
def Store.headOp (t : Store) : Option PendingOp :=
  if t.queue.isEmpty then none
  else if t.headFits then some .writeHead
  else if 0 < t.slotsLeft then some .padFill
  else if (t.used t.blockAhead).isSome then some (.eraseBlock t.blockAhead)
  else some .writeHead

/-- The store's pending operation as its state gives it (R102): none before the scan has set the write position, in HELD
(R110), and while an operation is in flight. -/
def Store.dueOp (t : Store) : Option PendingOp :=
  if ! t.scanned || t.inFlight.isSome then none
  else
    match t.state with
    | .normal => t.headOp
    | .held => none
    | .resetting =>
      match t.resetPhase with
      | some .drain => t.headOp
      | some .noteWrite => none
      | some (.erasing _ next) => some (.resetErase next)
      | some (.epochWrite _) => some .epochWrite
      | none => none

/-- The store with its pending operation brought up to date. -/
def Store.settle (t : Store) : Store := { t with pendingOp := t.dueOp }

/-! ### Starting operations (R106, R107, R114, R115) -/

/-- The write position moved to the first slot of the block ahead, when no slot is left in the current one (R106, R109). -/
def Store.enterBlank (t : Store) : Store :=
  if t.slotsLeft = 0 then { t with wpBlock := t.blockAhead, wpSlot := 0 } else t

/-- R106: the record write of the queue head starts, with its chain value computed under R104. -/
def Store.startWrite (t : Store) : Store :=
  match t.queue with
  | [] => t
  | e :: _ =>
    let chain := e.record.chainAfter e.number t.newestChain
    { t with inFlight := some (.recordWrite (e.record.bytes e.number chain) chain) }

/-- R115: the EPOCH record's write starts; its chain value is computed from the seed 0. -/
def Store.startEpochWrite (t : Store) (r : EpochRecord) : Store :=
  let chain := (Record.epoch r).chainAfter 1 0
  { t with inFlight := some (.epochWrite ((Record.epoch r).bytes 1 chain) chain) }

/-! ### HELD (R110) -/

/-- The period of the release check in ms (R110). -/
def releasePeriod : Nat := 60000

/-- R110: the store enters HELD, with the first release check due after 60,000 ms. -/
def State.enterHeld (s : State) : State :=
  { s with store := { s.store with state := .held, releaseCheck := some (s.monitor.elapsed + releasePeriod) } }

/-- R110: the blocked block is judged again; when it is releasable the store leaves HELD. -/
def State.judgeHeld (s : State) : State :=
  if s.store.state = .held ∧ s.releasable s.store.blockAhead then
    { s with store := { s.store with state := .normal, releaseCheck := none } }
  else s

/-! ### The settings area (R140) -/

/-- The area after a write: named fields replaced, the others as they stood (R140). -/
def Area.apply (a : Area) (w : AreaWrite) : Area :=
  { values := w.values.getD a.values, epoch := w.epoch.getD a.epoch, lastChange := w.lastChange.getD a.lastChange,
    lastApplied := w.lastApplied.getD a.lastApplied, strap := w.strap.or a.strap, note := w.note.getD a.note,
    resetMark := w.resetMark.getD a.resetMark }

/-- A write of the area is handed over behind those not yet complete (R140). -/
def State.writeArea (s : State) (w : AreaWrite) : State :=
  { s with bank := { s.bank with areaWrites := s.bank.areaWrites ++ [w] } }

/-- The area as it will stand once the writes handed over are complete. -/
def Bank.areaAhead (b : Bank) : Area := b.areaWrites.foldl Area.apply b.area

/-- The current epoch (R139): the epoch number the settings area names, counting a write under way (log 16). -/
def Bank.currentEpoch (b : Bank) : Nat := b.areaAhead.epoch

/-! ### The epoch reset (R113 to R115) -/

/-- R113: with the queue empty in the drain, the reset note is handed to the settings area. -/
def State.endDrain (s : State) : State :=
  if s.store.state = .resetting ∧ s.store.resetPhase = some .drain ∧ s.store.queue.isEmpty then
    let note : ResetNote :=
      { oldEpoch := s.store.epoch, newEpoch := s.bank.currentEpoch, oldLast := s.store.newest,
        oldChain := s.store.newestChain }
    let s := { s with store := { s.store with resetPhase := some .noteWrite } }
    s.writeArea { note := some (some note) }
  else s

/-- R113: the entries still in the queue are taken out of it and held back, in order. -/
def State.takeOutQueue (s : State) : State :=
  let held := s.store.queue.foldl (fun t e => t.holdBack s.now e.record) s.store
  { s with store := { held with queue := [] } }

/-- R113: the store begins the epoch reset. When it was HELD and its blocked block is still not releasable, the drain takes
the entries out at once; the drain ends when the queue is empty. -/
def State.beginReset (s : State) : State :=
  let blocked := s.store.state == .held && ! s.releasable s.store.blockAhead
  let s := { s with store := { s.store with state := .resetting, resetPhase := some .drain, releaseCheck := none } }
  (if blocked then s.takeOutQueue else s).endDrain

/-! ### Handing records over (R78, R105) -/

/-- R105: a record is handed to the store, whose pending operation is brought up to date. -/
def State.handOver (s : State) (r : Record) : State := { s with store := (s.store.take s.now r).settle }

/-- R78: a finalized record goes to the matrix and to the queue; a record of another kind is handed over alone. -/
def State.finalize (s : State) (r : Record) : State :=
  { s.handOver r with matrix := countRecord s.matrix r }

/-- Records finalized or made at one moment: the store takes them one at a time, in an order that is free when there are two
or more (R78, R105; log 7). -/
def State.deliver (s : State) (records : List Record) : State :=
  if records.length ≤ 1 then records.foldl State.finalize s
  else (pickOrder (Config.takenNext s.freeIndex) records.length records).foldl State.finalize s.useFree

/-! ### Attention (R169) -/

/-- The two slots hold the same set of (index, value) pairs (R142). No index appears twice in a slot. -/
def sameChanges (xs ys : List Change) : Bool :=
  xs.length == ys.length && xs.all (fun x => ys.contains x) && ys.all (fun y => xs.contains y)

/-- Both slots are MATCHED (R142). -/
def Bank.matched (b : Bank) : Bool :=
  match b.operatorSlot, b.consumerSlot with
  | some x, some y => sameChanges x.changes y.changes
  | _, _ => false

/-- R169: whether a port's attention line is asserted. Both lines are released unless the part is in RUN (R160). -/
def State.attentionDue (s : State) (p : Port) : Bool :=
  s.running &&
    (decide ((s.port p).mark + (s.port p).notify ≤ s.store.newest)
      || ((s.bank.slot p.other).isSome && ! s.bank.matched)
      || s.store.state == .held)

/-- Both attention lines judged afresh (R169). -/
def State.judgeLines (s : State) : State :=
  { s with operator := { s.operator with attention := s.attentionDue .operator },
           consumer := { s.consumer with attention := s.attentionDue .consumer } }

/-- What follows a change to the store, the slots, the marks or the monitor: the pending operation is brought up to date and
both attention lines are judged afresh. -/
def State.finish (s : State) : State :=
  { s with store := s.store.settle }.judgeLines

/-! ### Holdup (R116) -/

/-- R116 step 2 with an idle array in HOLDUP: the queue head's write starts when it fits in the current block. Nothing starts
while RESETTING, or before the scan has set the write position (R129). -/
def State.holdupWrite (s : State) : State :=
  if s.monitor.state = .holdup ∧ s.store.scanned ∧ s.store.inFlight.isNone ∧ s.store.state ≠ .resetting
      ∧ s.store.headFits then
    { s with store := s.store.startWrite }
  else s

/-- R116 step 3: the store has finished its holdup. -/
def Store.holdupFinished (t : Store) : Bool :=
  t.inFlight.isNone && (! t.scanned || t.state == .resetting || ! t.headFits)

end Sys2Proof.Machine
end

