-- ==== Sys2Proof/Machine/Replies.lean ====
section
/-! DEFINITION. The reader ports' shared operations: select periods (R155, R156, R160), the taking of a request (R158), the
completion of a reply (R158, R159, R174), and what stops the ports (R160). -/

namespace Sys2Proof.Machine

open Sys2Proof

/-! ### Replies (R158, R159, R174) -/

/-- A reply frame: length, code echo, tag echo, status, flags, payload and check byte (R174). -/
def replyFrame (p : Port) (code tag : Byte) (status : Status) (flags : Byte) (payload : List Byte) : List Byte :=
  let earlier := leBytes 2 (payload.length + 7) ++ [code, tag, status.code, flags] ++ payload
  earlier ++ [frameCheck p earlier]

/-- R158: a reply becomes complete: the marks are copied into its flags and cleared, and the reply state becomes READY. `own`
holds the request's own flags. -/
def State.complete (s : State) (p : Port) (code tag : Byte) (status : Status) (own : Nat) (payload : List Byte) : State :=
  s.onPort p fun t =>
    { t with
      inProcess := none,
      reply := replyFrame p code tag status (replyFlags t.overrun t.abandoned own) payload,
      replyState := .ready, overrun := false, abandoned := false }

/-- R158: what a request finds when it is taken: an unread reply is discarded with OVERRUN, a request in process is cancelled
with ABANDONED. -/
def PortState.taken (t : PortState) : PortState :=
  match t.replyState with
  | .none => t
  | .ready => { t with reply := [], replyState := .none, overrun := true }
  | .preparing => { t with inProcess := none, replyState := .none, abandoned := true }

/-- A request waits: the port keeps it in process and the reply state is PREPARING (R162, R168). -/
def State.prepare (s : State) (p : Port) (r : InProcess) : State :=
  s.onPort p fun t => { t with inProcess := some r, replyState := .preparing }

/-! ### Select periods (R155, R156, R160) -/

/-- R155: what a period that begins now will clock out: the READY reply, or zeros; while the part takes no requests the
period is ignored whole (R160). -/
def State.periodAtStart (s : State) (p : Port) : SelectPeriod :=
  if s.running then
    match (s.port p).replyState with
    | .ready => .reply (s.port p).reply
    | .none | .preparing => .zeros
  else .ignored

/-- The period that is ending: the one in progress, or, where none was started, one that begins as it ends (log 19). -/
def State.periodNow (s : State) (p : Port) : SelectPeriod := (s.port p).period.getD (s.periodAtStart p)

/-- The bytes that a period of `n` bytes sends on data out: the reply frame followed by zeros, or zeros (R155). -/
def SelectPeriod.shown (d : SelectPeriod) (n : Nat) : List Byte :=
  match d with
  | .reply bytes => (padTo n bytes).take n
  | .zeros | .ignored => List.replicate n 0

/-- The bytes sent in a period that ends now: nothing in RETAIN, where the port is without supply (R160). -/
def State.bytesOut (s : State) (p : Port) (n : Nat) : List Byte :=
  if s.monitor.state = .retain then [] else (s.periodNow p).shown n

/-- The part takes what the ending period brings: it is in RUN and the period is not ignored whole (R160). -/
def State.takesPeriod (s : State) (p : Port) : Bool := s.running && s.periodNow p != .ignored

/-- A period of `n` bytes ends. `buffer` is what stays in the request buffer; nothing taken in is kept where the period is not
taken (R160). The bytes stay in the buffer until the next period begins (R154; log 44). -/
def State.endPeriod (s : State) (p : Port) (n : Nat) (buffer : List Byte) : State :=
  let out := s.bytesOut p n
  let kept := if s.takesPeriod p then buffer.take 64 else []
  s.onPort p fun t => { t with period := none, clockedOut := out, requestBuffer := kept }

/-- R155: a period begins, and what it will clock out is fixed. -/
def State.beginPeriod (s : State) (p : Port) : State :=
  let d := s.periodAtStart p
  s.onPort p fun t => { t with period := some d, requestBuffer := [] }

/-- R156: the period that ends now was given a READY reply as it began, and it clocked at least the reply's length. -/
def SelectPeriod.readsIn (d : SelectPeriod) (n : Nat) : Bool :=
  match d with
  | .reply bytes => decide (2 ≤ n ∧ bytes.length ≤ n)
  | .zeros | .ignored => false

/-- R156: a read period of `n` bytes ends. A reply read in full leaves the buffer empty and the reply state NONE. -/
def State.readEnds (s : State) (p : Port) (n : Nat) : State :=
  let read := s.takesPeriod p && (s.periodNow p).readsIn n && (s.port p).replyState == .ready
  let s := s.endPeriod p n (List.replicate (min n 2) 0)
  if read then s.onPort p fun t => { t with reply := [], replyState := .none } else s

/-- R157, R158: a request period ends with a frame; what the request does follows its taking. Where the part takes no
requests nothing else happens (R160). -/
def State.request (s : State) (p : Port) (frame : List Byte) (act : State → State) : State :=
  if s.takesPeriod p then act ((s.endPeriod p frame.length frame).onPort p PortState.taken)
  else s.endPeriod p frame.length frame

/-! ### Failed frames (R157) -/

/-- R157: the counters of a failed check: LENGTH and CHECK count, saturating (R154). -/
def PortState.countFailure (t : PortState) : Status → PortState
  | .length => { t with lengthFailures := bump16 t.lengthFailures }
  | .check => { t with checkFailures := bump16 t.checkFailures }
  | .ok | .unknown | .range | .conflict | .backward | .limited => t

/-- R157: a frame that fails a check is answered with the check's status and no payload. -/
def State.refuseFrame (s : State) (p : Port) (code tag : Byte) (status : Status) : State :=
  (s.onPort p fun t => t.countFailure status).complete p code tag status 0 []

/-! ### What stops the ports (R160) -/

/-- R160: the port drops its request and reply, its marks are cleared and its line is released; a period in progress is
ignored whole. -/
def PortState.stopped (t : PortState) : PortState :=
  { t with
    inProcess := none, reply := [], replyState := .none, overrun := false, abandoned := false, attention := false,
    requestBuffer := [], period := t.period.map fun _ => .ignored }

/-- R160: both ports stop. -/
def State.stopPorts (s : State) : State := s.onPorts PortState.stopped

end Sys2Proof.Machine
end

