-- ==== Sys2Proof/Machine/Reads.lean ====
section
/-! DEFINITION. The service of a READ RECORDS (R108, R162) and the end of a FLUSH wait (R168). -/

namespace Sys2Proof.Machine

open Sys2Proof

/-! ### Gathering records (R108) -/

/-- The records of the blocks that hold numbers from `lo` to `hi`. -/
def Store.recordsWithin (t : Store) (lo hi : Nat) : List Stored :=
  (t.blocks.filter fun u => decide (u.first ≤ hi) && decide (lo ≤ u.last)).flatMap fun u =>
    Memory.blockRecords t.array u.block

/-- A record as a reply carries it: its mark, 0 committed and 1 uncommitted, and its slots (R175). -/
def readItem (uncommitted : Bool) (bytes : List Byte) : List Byte := packed (bitAt 0 uncommitted) :: bytes

/-- R108: the record of a number: from the array at or below newest committed, and otherwise from the queue with its chain
field 0. -/
def Store.readOne (t : Store) (stored : List Stored) (number : Nat) : Option (List Byte) :=
  if number ≤ t.newest then (stored.find? fun r => r.number == number).map fun r => readItem false r.bytes
  else (t.queue.find? fun e => e.number == number).map fun e => readItem true (e.record.bytes e.number 0)

/-- R108: up to `count` records from a number on, in sequence order. -/
def Store.readFrom (t : Store) (start count : Nat) : List (List Byte) :=
  let stored := t.recordsWithin start (start + count - 1)
  (List.range count).filterMap fun i => t.readOne stored (start + i)

/-- R162: the reply to a READ RECORDS as the store stands at service: its flags and its records. -/
def Store.readReply (t : Store) (first count : Nat) : Nat × List (List Byte) :=
  match t.oldest with
  | some oldest =>
    if first < oldest then (flagStartedLater, t.readFrom oldest count)
    else if first ≤ t.newestAssigned then (0, t.readFrom first count)
    else (0, [])
  | none => if first ≤ t.newest then (flagStartedLater + flagEmptyStore, []) else (flagEmptyStore, [])

/-! ### The arbiter's reads (R107) -/

/-- The waiting read of a port: its tag, first number and count (R102, R154). -/
def PortState.waitingRead (t : PortState) : Option (Byte × Nat × Nat) :=
  match t.inProcess with
  | some (.read tag first count) => some (tag, first, count)
  | some (.flush _ _) | none => none

/-- R107: the port whose waiting read is served next: when both wait, the one not served last. -/
def State.nextReader (s : State) : Option Port :=
  match s.operator.waitingRead.isSome, s.consumer.waitingRead.isSome with
  | true, true => some s.store.lastServed.other
  | true, false => some .operator
  | false, true => some .consumer
  | false, false => none

/-- R108, R162: the waiting read of a port is served, and its reply becomes READY. -/
def State.serveRead (s : State) (p : Port) : State :=
  match (s.port p).waitingRead with
  | none => s
  | some (tag, first, count) =>
    let reply := s.store.readReply first count
    let s := { s with store := { s.store with lastServed := p } }
    s.complete p 2 tag .ok reply.1 (leBytes 1 reply.2.length ++ reply.2.flatten)

/-! ### The end of a FLUSH wait (R168) -/

/-- R168: the payload of a FLUSH reply: the target and newest committed. -/
def Store.flushPayload (t : Store) (target : Nat) : List Byte := leBytes 4 target ++ leBytes 4 t.newest

/-- R168: the HELD flag of a FLUSH reply. -/
def Store.heldFlag (t : Store) : Nat := if t.state = .held then flagHeld else 0

/-- R168: what ends a wait: newest committed at the target or beyond, HELD, or no queue entry at or below the target. HELD is
judged as it stands when FLUSH_COMPLETE is taken: a wait whose HELD the store has left by then goes on (log 14). -/
def Store.flushEnds (t : Store) (target : Nat) : Bool :=
  decide (target ≤ t.newest) || t.state == .held || t.queue.all fun e => decide (target < e.number)

/-- R168: the tag and target of the FLUSH of a port, when its wait has ended. -/
def State.flushDue (s : State) (p : Port) : Option (Byte × Nat) :=
  match (s.port p).inProcess with
  | some (.flush tag target) => if s.running && s.store.flushEnds target then some (tag, target) else none
  | some (.read _ _ _) | none => none

/-- R168: the FLUSH reply of a port becomes READY. -/
def State.completeFlush (s : State) (p : Port) (tag : Byte) (target : Nat) : State :=
  s.complete p 11 tag .ok s.store.heldFlag (s.store.flushPayload target)

end Sys2Proof.Machine
end

