-- ==== Sys2Proof/Machine/Arbiter.lean ====
section
/-! DEFINITION. The commands of the store and the settings area: HELD_BACK_GAP_QUEUE, ARBITER_GRANT, RECORD_WRITE_COMPLETE,
PAD_FILL_COMPLETE, ERASE_COMPLETE, RESET_ERASE_COMPLETE, EPOCH_WRITE_COMPLETE, AREA_WRITE_COMPLETE, FLUSH_COMPLETE. -/

namespace Sys2Proof.Machine

open Sys2Proof

/-! ### The GAP record of an episode (R112) -/

/-- The store works: the part is in RUN or HOLDUP and the scan has set the write position. -/
def State.storeWorks (s : State) : Bool :=
  s.store.scanned && (s.monitor.state == .run || s.monitor.state == .holdup)

/-- R112: the GAP record of the open episode is queued; in HOLDUP the store may then write it (R116). -/
def State.queueGapRecord (s : State) : State := ({ s with store := s.store.queueGap }.holdupWrite).finish

/-- HELD_BACK_GAP_QUEUE (R112; log 13). -/
def execHeldBackGapQueue (s : State) : Host.Outcome State Fault Refusal :=
  .next (if s.storeWorks && s.store.gapDue then s.queueGapRecord else s)

/-! ### The arbiter (R107) -/

/-- R109: the erase of a block is judged as it is to start: a releasable block starts erasing; otherwise a drain takes the
queue's entries out (R113), and the store enters HELD in any other case (R110). -/
def State.judgeErase (s : State) (block : Nat) : State :=
  if s.releasable block then { s with store := { s.store with inFlight := some (.eraseBlock block) } }
  else if s.store.state = .resetting then s.takeOutQueue.endDrain
  else s.enterHeld

/-- R107: the store's pending operation starts. -/
def State.startPending (s : State) : State :=
  match s.store.pendingOp with
  | none => s
  | some .writeHead => { s with store := s.store.enterBlank.startWrite }
  | some .padFill => { s with store := { s.store with inFlight := some .padFill } }
  | some (.eraseBlock block) => s.judgeErase block
  | some (.resetErase block) => { s with store := { s.store with inFlight := some (.resetErase block) } }
  | some .epochWrite =>
    match s.store.resetPhase with
    | some (.epochWrite r) => { s with store := s.store.startEpochWrite r }
    | some .drain | some .noteWrite | some (.erasing _ _) | none => s

/-- R107: the free array is given to a waiting read, or to the store's pending operation. In HOLDUP it serves no read and
starts only the writes of R116. -/
def State.grant (s : State) : State :=
  match s.monitor.state with
  | .run =>
    match s.nextReader with
    | some p => s.serveRead p
    | none => s.startPending.finish
  | .holdup => s.holdupWrite.finish
  | .retain | .restarting => s

/-- ARBITER_GRANT (R107): it acts when the array is free and the scan has set the write position. -/
def execArbiterGrant (s : State) : Host.Outcome State Fault Refusal :=
  .next (if s.store.scanned && s.store.inFlight.isNone then s.grant else s)

/-! ### Completions of the array (R106, R109) -/

/-- The block table with a record's number as a block's last, and as its first when the block was BLANK (R106). -/
def recordIn (blocks : List UsedBlock) (block number : Nat) : List UsedBlock :=
  if blocks.any fun u => u.block == block then
    blocks.map fun u => if u.block = block then { u with last := number } else u
  else blocks ++ [{ block := block, first := number, last := number }]

/-- R106: the write of the queue head completes. -/
def Store.commitHead (t : Store) (bytes : List Byte) (chain : Chain) : Store :=
  match t.queue with
  | [] => { t with inFlight := none }
  | e :: rest =>
    { t with
      array := Memory.writeBytes t.array (slotAddress t.wpBlock t.wpSlot) bytes,
      newest := e.number, newestChain := chain, queue := rest, wpSlot := t.wpSlot + bytes.length / slotBytes,
      blocks := recordIn t.blocks t.wpBlock e.number, oldest := some (t.oldest.getD e.number), inFlight := none }

/-- What follows a completion at the array: in RUN a drain whose queue is empty ends (R113), and in HOLDUP the next head that
fits is started (R116). A drain whose last write completes in HOLDUP is left to the restart's scan, which hands the reset note to
the area (R120; log 48). -/
def State.afterCompletion (s : State) : State := ((if s.running then s.endDrain else s).holdupWrite).finish

/-- RECORD_WRITE_COMPLETE (R106). -/
def execRecordWriteComplete (s : State) : Host.Outcome State Fault Refusal :=
  .next (match s.store.inFlight with
    | some (.recordWrite bytes chain) => { s with store := s.store.commitHead bytes chain }.afterCompletion
    | _ => s)

/-- R106: the PAD fill completes: the slots left hold PAD markers, and the write position stands at the end of the block. -/
def Store.padded (t : Store) : Store :=
  { t with
    array := Memory.writeBytes t.array (slotAddress t.wpBlock t.wpSlot) (List.replicate (t.slotsLeft * slotBytes) 0),
    wpSlot := blockSlots, inFlight := none }

/-- PAD_FILL_COMPLETE (R106). -/
def execPadFillComplete (s : State) : Host.Outcome State Fault Refusal :=
  .next (match s.store.inFlight with
    | some .padFill => { s with store := s.store.padded }.afterCompletion
    | _ => s)

/-- How far a block lies after a block, in circular order. -/
def distanceAfter (block other : Nat) : Nat := (other + (blockCount - 1) - block) % blockCount

/-- The USED block that comes first after a block in circular order (R109). -/
def nextUsed (block : Nat) : List UsedBlock → Option UsedBlock
  | [] => none
  | u :: rest =>
    match nextUsed block rest with
    | none => some u
    | some w => if distanceAfter block w.block < distanceAfter block u.block then some w else some u

/-- The block table without a block: it is BLANK. -/
def withoutBlock (blocks : List UsedBlock) (block : Nat) : List UsedBlock := blocks.filter fun u => u.block != block

/-- R109: the erase of a block completes: it is BLANK, the write position moves to its first slot, and oldest stored advances
to the first record of the next USED block. -/
def Store.erased (t : Store) (block : Nat) : Store :=
  let blocks := withoutBlock t.blocks block
  { t with
    array := Memory.eraseBlock t.array block, blocks := blocks, wpBlock := block, wpSlot := 0,
    oldest := (nextUsed block blocks).map (·.first), inFlight := none }

/-- ERASE_COMPLETE (R109). -/
def execEraseComplete (s : State) : Host.Outcome State Fault Refusal :=
  .next (match s.store.inFlight with
    | some (.eraseBlock block) => { s with store := s.store.erased block }.afterCompletion
    | _ => s)

/-! ### The epoch reset (R114, R115) -/

/-- What follows the erase of a block in the erase phase: the next block, and after block 1,023 the making of the EPOCH
record (R114, R115). -/
def afterResetErase (phase : Option ResetPhase) (block : Nat) (now : Stamp) : Option ResetPhase :=
  match phase with
  | some (.erasing note _) =>
    if block + 1 < blockCount then some (.erasing note (block + 1))
    else some (.epochWrite { stamp := now, note := note })
  | some .drain => some .drain
  | some .noteWrite => some .noteWrite
  | some (.epochWrite r) => some (.epochWrite r)
  | none => none

/-- R114: one erase of the erase phase completes. The EPOCH record will go to slot 0 of block 0 (R115). -/
def Store.resetErased (t : Store) (block : Nat) (now : Stamp) : Store :=
  { t with
    array := Memory.eraseBlock t.array block, blocks := withoutBlock t.blocks block, wpBlock := 0, wpSlot := 0,
    resetPhase := afterResetErase t.resetPhase block now, inFlight := none }

/-- RESET_ERASE_COMPLETE (R114). -/
def execResetEraseComplete (s : State) : Host.Outcome State Fault Refusal :=
  .next (match s.store.inFlight with
    | some (.resetErase block) => { s with store := s.store.resetErased block s.now }.finish
    | _ => s)

/-- The epoch that an EPOCH record's write opens: the one its reset phase names. -/
def Store.epochOpening (t : Store) : Nat :=
  match t.resetPhase with
  | some (.epochWrite r) => r.note.newEpoch
  | some .drain | some .noteWrite | some (.erasing _ _) | none => t.epoch

/-- R115: the store as the reset ends. -/
def Store.epochOpened (t : Store) (bytes : List Byte) (chain : Chain) : Store :=
  { t with
    array := Memory.writeBytes t.array (slotAddress 0 0) bytes, newest := 1, newestChain := chain, oldest := some 1,
    epoch := t.epochOpening, state := .normal, resetPhase := none, releaseCheck := none, inFlight := none,
    blocks := recordIn t.blocks 0 1, wpBlock := 0, wpSlot := 1 }

/-- R115: the EPOCH record's write completes and the reset ends: the store, the reset note and the reset mark (log 17), both
collection marks, and the matrix (R83). -/
def State.endReset (s : State) (bytes : List Byte) (chain : Chain) : State :=
  let s := s.onPorts fun t => { t with mark := 0 }
  { s with
    store := s.store.epochOpened bytes chain,
    bank := { s.bank with area := { s.bank.area with note := none, resetMark := false } },
    matrix := matrixClear }

/-- EPOCH_WRITE_COMPLETE (R115). -/
def execEpochWriteComplete (s : State) : Host.Outcome State Fault Refusal :=
  .next (match s.store.inFlight with
    | some (.epochWrite bytes chain) => ((s.endReset bytes chain).holdupWrite).finish
    | _ => s)

/-! ### The settings area (R140) -/

/-- R113, R114: the erase phase begins once the reset note is in place; oldest stored becomes absent. -/
def Store.noteWritten (t : Store) (note : Option ResetNote) : Store :=
  match note, t.resetPhase with
  | some n, some .noteWrite => { t with resetPhase := some (.erasing n 0), oldest := none }
  | _, _ => t

/-- R140: the first write of the area completes and replaces its named fields whole. -/
def State.completeAreaWrite (s : State) (w : AreaWrite) (rest : List AreaWrite) : State :=
  { s with
    bank := { s.bank with area := s.bank.area.apply w, areaWrites := rest },
    store := s.store.noteWritten (w.note.getD none) }.finish

/-- AREA_WRITE_COMPLETE (R140). -/
def execAreaWriteComplete (s : State) : Host.Outcome State Fault Refusal :=
  .next (match s.bank.areaWrites with
    | [] => s
    | w :: rest => s.completeAreaWrite w rest)

/-! ### FLUSH_COMPLETE (R168) -/

/-- FLUSH_COMPLETE (R168; log 14). -/
def execFlushComplete (p : Port) (s : State) : Host.Outcome State Fault Refusal :=
  .next (match s.flushDue p with
    | none => s
    | some (tag, target) => s.completeFlush p tag target)

end Sys2Proof.Machine
end

