-- ==== Sys2Proof/Machine/Values.lean ====
section
/-! DEFINITION. The Half-Cycle Engine's arithmetic (R20 to R26, R29, R30, R32) and the value set (R27). -/

namespace Sys2Proof.Machine

open Sys2Proof

/-- The integer square root found bit by bit: `r` grows by `2 ^ k` where its square does not pass `m`. -/
def isqrtFrom : Nat → Nat → Nat → Nat
  | 0, _, r => r
  | k + 1, m, r => isqrtFrom k m (if (r + 2 ^ k) * (r + 2 ^ k) ≤ m then r + 2 ^ k else r)

/-- floor(sqrt m), for m below 2⁶⁴ (R20, R92). -/
def isqrt (m : Nat) : Nat := isqrtFrom 32 m 0

/-- The sum of the squares of converter codes (R20). -/
def squaresOf (codes : List Int) : Nat := (codes.map fun x => x.natAbs * x.natAbs).sum

/-- The root R of a window of `n` codes with a sum of squares Q: floor(sqrt(floor(Q / n))) (R20). -/
def rootOf (q n : Nat) : Nat := isqrt (q / n)

/-- A root in codes converted by a scale, rounded to nearest with ties up and clamped at the top (R21, R22). -/
def scaled (top scale root : Nat) : Nat := min top ((root * 10000 + scale / 2) / scale)

/-- U½ in dh from the voltage codes of a window (R20, R21). -/
def voltageValue (udin n : Nat) (codes : List Int) : Nat := scaled 30000 udin (rootOf (squaresOf codes) n)

/-- I½ in nh from the current codes of a window (R22). -/
def currentValue (inom n : Nat) (codes : List Int) : Nat := scaled 60000 inom (rootOf (squaresOf codes) n)

/-- p½ in ph from the mean product Pc and D = Udin_code × Inom_code: rounded to nearest, ties away from zero, and clamped
(R24). -/
def powerValue (pc : Int) (d : Nat) : Int :=
  let magnitude : Int := ((2 * (pc * 10000).natAbs + d) / (2 * d) : Nat)
  clamp (-30000) 30000 (if pc < 0 then -magnitude else magnitude)

/-- S½ in ph from the finished U½ and I½ (R25). -/
def apparentValue (u i : Nat) : Nat := u * i / 10000

/-- The values of one phase over a window of `n` sets (R20 to R25). The mean product is truncated toward zero (R23). -/
def phaseValues (set : Settings) (n : Nat) (window : List SampleSet) (considered : Bool) (f : Phase) : PhaseValues :=
  let u := voltageValue set.udin n (window.map fun x => x.voltage f)
  let i := currentValue set.inom n (window.map fun x => x.current f)
  let qp := (window.map fun x => x.voltage f * x.current f).sum
  { u := u, i := i, p := powerValue (qp.tdiv n) (set.udin * set.inom), s := apparentValue u i, considered := considered }

/-- Total p over the considered phases (R26). -/
def totalPower (v : ThreePhase PhaseValues) : Int :=
  (if v.a.considered then v.a.p else 0) + (if v.b.considered then v.b.p else 0) + (if v.c.considered then v.c.p else 0)

/-- Total S over the considered phases (R26). -/
def totalApparent (v : ThreePhase PhaseValues) : Nat :=
  (if v.a.considered then v.a.s else 0) + (if v.b.considered then v.b.s else 0) + (if v.c.considered then v.c.s else 0)

/-- The substituted sets among the `n` newest (R7). -/
def substitutionCount (marks : List SetMarks) (n : Nat) : Nat := (marks.take n).countP (·.substituted)

/-- R7: a window is valid with 0, 1 or 2 substitutions. -/
def windowValid (substitutions : Nat) : Bool := decide (substitutions ≤ 2)

/-- R7: a window is clipped when any of its sets carries the clipped mark. -/
def windowClipped (marks : List SetMarks) (n : Nat) : Bool := (marks.take n).any (·.clipped)

/-- R19, R27: the value set of a window of the `n` newest sets, with the tracker state and reference phase handed over. All
three phases are computed under either arrangement (R30). -/
def State.valueSet (s : State) (n : Nat) : ValueSet :=
  let set := s.bank.inForce
  let window := s.engine.history.take n
  let phases := ThreePhase.build fun f => phaseValues set n window (s.considered.has f) f
  let count := substitutionCount s.link.marks n
  { elapsed := s.tracker.setElapsed, clock := s.tracker.setClock, n := n, tracker := s.tracker.state, ref := s.tracker.ref,
    substitutions := count, valid := windowValid count, clipped := windowClipped s.link.marks n,
    arrangement := s.arrangement, phases := phases, totalP := totalPower phases, totalS := totalApparent phases }

/-- U½ of a phase in a value set. -/
def ValueSet.u (v : ValueSet) (f : Phase) : Nat := (v.phases.get f).u

end Sys2Proof.Machine
end

