-- ==== Sys2Proof/Machine/Estimator.lean ====
section
/-! DEFINITION. The Direction Estimator (R59 to R69): the pre-event ring, the references, the accumulators and the verdict. -/

namespace Sys2Proof.Machine

open Sys2Proof

/-- The entries of a full ring (R59). -/
def ringCapacity : Nat := 20

/-- R63: the references formed from the ring as it stands, absent when it holds fewer than 20 entries. -/
def referencesOf (ring : List RingEntry) : Option PowerRef :=
  if ringCapacity ≤ ring.length then
    some { p := ((ring.map RingEntry.p).sum).tdiv 20, s := (ring.map RingEntry.s).sum / 20 }
  else none

/-- R63: the direction fields at the opening of a reduction. -/
def openingFields (ring : List RingEntry) : DirectionFields :=
  { ref := referencesOf ring, sumD := 0, count := 0, frozen := false }

/-- The kinds of window (R60). -/
inductive WindowKind where
  | ring | dip | neither
  deriving DecidableEq, Repr

/-- R60: the kind of a window from the reduction context's state before the checks and after them. A window that closes the
event from DIP has state DIP before the checks and IDLE after them. -/
def windowKind (valid : Bool) (tracker : TrackState) (before after : Option RedState) : WindowKind :=
  if ! valid then .neither
  else if after = some .dip ∨ (before = some .dip ∧ after = none) then .dip
  else if tracker = .tracking ∧ before = none ∧ after = none then .ring
  else .neither

/-- R61: the Estimator's ring and skip mark after a window of a kind. -/
def Estimator.window (e : Estimator) (kind : WindowKind) (v : ValueSet) : Estimator :=
  if e.skip then { e with skip := false }
  else
    match kind with
    | .ring => { e with ring := ({ p := v.totalP, s := v.totalS } :: e.ring).take ringCapacity }
    | .dip | .neither => e

/-- R62: the ring emptied at a gap-open notice. -/
def Estimator.emptied (e : Estimator) : Estimator := { e with ring := [] }

/-- R62: the ring emptied and the skip mark set at a commit. -/
def Estimator.committed (_ : Estimator) : Estimator := { ring := [], skip := true }

/-- The bounds of D, a signed 48-bit value (R65). -/
def dWithin (x : Int) : Bool := decide (-140737488355328 ≤ x ∧ x ≤ 140737488355327)

/-- R64, R65: the accumulators after a DIP window; `spanned` is spanned supply loss. -/
def DirectionFields.accumulate (d : DirectionFields) (v : ValueSet) (spanned : Bool) : DirectionFields :=
  match d.ref with
  | none => d
  | some r =>
    if v.tracker = .tracking ∧ v.clipped = false ∧ spanned = false ∧ d.frozen = false then
      let next := d.sumD + (v.totalP - r.p)
      if dWithin next ∧ d.count < max32 then { d with sumD := next, count := d.count + 1 }
      else { d with frozen := true }
    else d

/-- R68: the metric, exact division truncated toward zero, then clamped. -/
def metricOf (sumD : Int) (count sPre : Nat) : Int :=
  clamp (-30000) 30000 ((sumD * 10000).tdiv ((count * sPre : Nat) : Int))

/-- The verdict, its reason, and the metric when it was computed (R67, R69). -/
structure Judgement where
  verdict : Verdict
  reason : Reason
  metric : Option Int
  deriving DecidableEq, Repr

/-- R67: the verdict from the direction fields, the margin (setting 10) and the load floor (setting 11). -/
def judge (margin floor : Nat) (d : DirectionFields) : Judgement :=
  match d.ref with
  | none => { verdict := .undetermined, reason := .noReference, metric := none }
  | some r =>
    if r.s < floor then { verdict := .undetermined, reason := .lowLoad, metric := none }
    else if d.count = 0 then { verdict := .undetermined, reason := .interruptedOnly, metric := none }
    else
      let m := metricOf d.sumD d.count r.s
      if (margin : Int) ≤ m then { verdict := .downstream, reason := .metric, metric := some m }
      else if m ≤ -(margin : Int) then { verdict := .upstream, reason := .metric, metric := some m }
      else { verdict := .undetermined, reason := .margin, metric := some m }

end Sys2Proof.Machine
end

