-- ==== Sys2Proof/Machine/Detector.lean ====
section
/-! DEFINITION. The Event Detector (R38 to R56): what a window and the supply-fail warning do to the three contexts. -/

namespace Sys2Proof.Machine

open Sys2Proof

/-! ### The tests of R38 -/

/-- Some considered phase has U < Td. -/
def dipStart (set : Settings) (c : PhaseSet) (u : Phase → Nat) : Bool := anyIn c fun f => decide (u f < set.td)

/-- Every considered phase has U < Ti. -/
def interruptionStart (set : Settings) (c : PhaseSet) (u : Phase → Nat) : Bool := allIn c fun f => decide (u f < set.ti)

/-- Some considered phase has U ≥ Ti + H. -/
def interruptionEnd (set : Settings) (c : PhaseSet) (u : Phase → Nat) : Bool :=
  anyIn c fun f => decide (set.ti + set.h ≤ u f)

/-- Every considered phase has U ≥ Td + H. -/
def dipEnd (set : Settings) (c : PhaseSet) (u : Phase → Nat) : Bool := allIn c fun f => decide (set.td + set.h ≤ u f)

/-- Some considered phase has U > Ts, or the window is clipped. -/
def swellStart (set : Settings) (c : PhaseSet) (u : Phase → Nat) (clipped : Bool) : Bool :=
  clipped || anyIn c fun f => decide (set.ts < u f)

/-- Every considered phase has U ≤ Ts − H, and the window is not clipped. -/
def swellEnd (set : Settings) (c : PhaseSet) (u : Phase → Nat) (clipped : Bool) : Bool :=
  ! clipped && allIn c fun f => decide (u f + set.h ≤ set.ts)

/-! ### The reduction context -/

/-- One more entry into INTERRUPTED or SUPPLY_LOST at an elapsed time: the part is made present, or its first start is kept
and its entry count rises, saturating at 65,535 (R42, R47). -/
def enterInterruption (part : Option InterruptionPart) (elapsed : Nat) : InterruptionPart :=
  match part with
  | none => { first := elapsed, last := none, entries := 1 }
  | some i => { i with entries := saturate max16 (i.entries + 1) }

/-- R42: DIP to INTERRUPTED. -/
def Reduction.interrupt (r : Reduction) (elapsed : Nat) : Reduction :=
  { r with state := .interrupted, interruption := some (enterInterruption r.interruption elapsed) }

/-- R43: INTERRUPTED to DIP; the last interruption end becomes the window's boundary. -/
def Reduction.recover (r : Reduction) (elapsed : Nat) : Reduction :=
  { r with state := .dip, interruption := r.interruption.map fun i => { i with last := some elapsed } }

/-- R41: a reduction opened by a window, with the direction fields its opening notice gives it. -/
def openReduction (set : Settings) (c : PhaseSet) (v : ValueSet) (q : Quality) (dir : DirectionFields) : Reduction :=
  let low := lowestOf c v.u
  { state := .dip, start := { clock := v.clock, elapsed := v.elapsed, quality := q },
    phases := .where' fun f => c.has f && decide (v.u f < set.td),
    residual := low.1, residualPhase := low.2, interruption := none, gapInside := false, clippedInside := false,
    spannedLoss := false, startedAtLoss := false, dir := dir }

/-- R44: the running updates of a valid window. -/
def Reduction.running (r : Reduction) (set : Settings) (c : PhaseSet) (v : ValueSet) : Reduction :=
  let low := lowestOf c v.u
  { r with
    phases := r.phases.union (.where' fun f => c.has f && decide (v.u f < set.td)),
    residual := if low.1 < r.residual then low.1 else r.residual,
    residualPhase := if low.1 < r.residual then low.2 else r.residualPhase,
    clippedInside := r.clippedInside || v.clipped }

/-- What the checks of R40 make of the context at a valid window: the context with its running updates, and whether the window
opened the event or closes it. -/
structure RedStep where
  context : Option Reduction
  opened : Bool
  closing : Bool
  deriving DecidableEq, Repr

/-- Check 3 of R40: an interruption starts in DIP when every considered phase is below Ti. -/
def Reduction.checkInterruption (r : Reduction) (set : Settings) (c : PhaseSet) (v : ValueSet) : Reduction :=
  if interruptionStart set c v.u then r.interrupt v.elapsed else r

/-- Checks 2 and 3 of R40, on a context in DIP. -/
def Reduction.checkDip (r : Reduction) (set : Settings) (c : PhaseSet) (v : ValueSet) : RedStep :=
  if dipEnd set c v.u then { context := some (r.running set c v), opened := false, closing := true }
  else { context := some ((r.checkInterruption set c v).running set c v), opened := false, closing := false }

/-- R40: the reduction context takes a valid window. `ring` is the pre-event ring, from which an opening takes its
references (R63). In SUPPLY_LOST it takes none. -/
def reductionWindow (set : Settings) (c : PhaseSet) (v : ValueSet) (q : Quality) (ring : List RingEntry)
    (context : Option Reduction) : RedStep :=
  match context with
  | none =>
    if dipStart set c v.u then
      let r := openReduction set c v q (openingFields ring)
      { context := some ((r.checkInterruption set c v).running set c v), opened := true, closing := false }
    else { context := none, opened := false, closing := false }
  | some r =>
    match r.state with
    | .supplyLost => { context := some r, opened := false, closing := false }
    | .dip => r.checkDip set c v
    | .interrupted =>
      if interruptionEnd set c v.u then (r.recover v.elapsed).checkDip set c v
      else { context := some (r.running set c v), opened := false, closing := false }

/-- The state of the context after the checks: IDLE when the window closes the event. -/
def RedStep.after (t : RedStep) : Option RedState := if t.closing then none else t.context.map (·.state)

/-- The interruption offset and span of a closing event, each held at 4,294,967,295 (R45). An interruption part has its last
end by then. -/
def InterruptionPart.summary (i : InterruptionPart) (start : Nat) : InterruptionSummary :=
  { offset := durationOf start i.first, span := durationOf i.first (i.last.getD i.first), entries := i.entries }

/-- R45, R46, R69: the summary of an event closed at a window. -/
def Reduction.summary (r : Reduction) (set : Settings) (v : ValueSet) : Summary :=
  let j := judge set.margin set.loadFloor r.dir
  { start := r.start, closeClock := v.clock, closeElapsed := v.elapsed, duration := durationOf r.start.elapsed v.elapsed,
    saturated := durationSaturates r.start.elapsed v.elapsed, phases := r.phases, residual := r.residual,
    residualPhase := r.residualPhase, interruption := r.interruption.map fun i => i.summary r.start.elapsed,
    gapInside := r.gapInside, clippedInside := r.clippedInside, spannedLoss := r.spannedLoss,
    startedAtLoss := r.startedAtLoss, arrangement := set.phaseArrangement, verdict := j.verdict, reason := j.reason,
    ref := r.dir.ref, count := r.dir.count, metric := j.metric }

/-- R47: the reduction context after the supply-fail warning, and whether the event opened there. -/
def reductionWarning (c : PhaseSet) (now : Stamp) (ring : List RingEntry) (context : Option Reduction) :
    Reduction × Bool :=
  match context with
  | none =>
    ({ state := .supplyLost, start := now, phases := c, residual := 0, residualPhase := .a,
       interruption := some (enterInterruption none now.elapsed), gapInside := false, clippedInside := false,
       spannedLoss := true, startedAtLoss := true, dir := openingFields ring }, true)
  | some r =>
    let lost : Reduction :=
      { r with
        state := .supplyLost, phases := r.phases.union c, residual := 0,
        residualPhase := if 0 < r.residual then .a else r.residualPhase, spannedLoss := true }
    match r.state with
    | .dip => ({ lost with interruption := some (enterInterruption r.interruption now.elapsed) }, false)
    | .interrupted => (lost, false)
    | .supplyLost => (r, false)

/-! ### The swell context -/

/-- R50: a swell opened by a window. -/
def openSwell (set : Settings) (c : PhaseSet) (v : ValueSet) (q : Quality) : Swell :=
  let high := highestOf c v.u
  { start := { clock := v.clock, elapsed := v.elapsed, quality := q }, maximum := high.1, maximumPhase := high.2,
    phases := .where' fun f => c.has f && decide (set.ts < v.u f), clippedInside := v.clipped, gapInside := false,
    endedBySupplyLoss := false }

/-- R51: the running updates of a valid window. -/
def Swell.running (w : Swell) (set : Settings) (c : PhaseSet) (v : ValueSet) : Swell :=
  let high := highestOf c v.u
  { w with
    phases := w.phases.union (.where' fun f => c.has f && decide (set.ts < v.u f)),
    maximum := if w.maximum < high.1 then high.1 else w.maximum,
    maximumPhase := if w.maximum < high.1 then high.2 else w.maximumPhase,
    clippedInside := w.clippedInside || v.clipped }

/-- R52, R53: the SWELL record of a swell closed at a moment. -/
def Swell.record (w : Swell) (arrangement : Arrangement) (closeClock closeElapsed : Nat) : SwellRecord :=
  { start := w.start, closeClock := closeClock, closeElapsed := closeElapsed,
    duration := durationOf w.start.elapsed closeElapsed, saturated := durationSaturates w.start.elapsed closeElapsed,
    maximum := w.maximum, maximumPhase := w.maximumPhase, phases := w.phases, arrangement := arrangement,
    clippedInside := w.clippedInside, gapInside := w.gapInside, endedBySupplyLoss := w.endedBySupplyLoss }

/-- R50 to R52: the swell context takes a valid window; the record is that of a swell it closes. -/
def swellWindow (set : Settings) (c : PhaseSet) (v : ValueSet) (q : Quality) (context : Option Swell) :
    Option Swell × Option SwellRecord :=
  match context with
  | none => if swellStart set c v.u v.clipped then (some (openSwell set c v q), none) else (none, none)
  | some w =>
    let w := w.running set c v
    if swellEnd set c v.u v.clipped then (none, some (w.record set.phaseArrangement v.clock v.elapsed))
    else (some w, none)

/-- R53: ended by supply loss is set on the context as the warning closes it. -/
def Swell.lost (w : Swell) : Swell := { w with endedBySupplyLoss := true }

/-- R53: the swell context takes the supply-fail warning. -/
def swellWarning (arrangement : Arrangement) (now : Stamp) (context : Option Swell) : Option SwellRecord :=
  context.map fun w => w.lost.record arrangement now.clock now.elapsed

/-! ### The measurement gap -/

/-- The invalid windows that open a gap (R54). -/
def gapRun : Nat := 20

/-- R55, R56: the GAP record of a gap that ends at a moment. -/
def OpenGap.record (g : OpenGap) (endClock endElapsed : Nat) : GapRecord :=
  { cause := .measurement, startClock := g.start.clock, quality := g.start.quality, endClock := endClock,
    duration := durationOf g.start.elapsed endElapsed, windows := g.windows,
    counts := { reduction := 0, burst := 0, swell := 0, interval := 0, gap := 0, settings := 0, timestep := 0, restart := 0 } }

/-- R54: the context takes an invalid window; the second part says that the gap opened. -/
def GapContext.invalid (g : GapContext) (v : ValueSet) (q : Quality) : GapContext × Bool :=
  let start : Stamp :=
    if g.runCount = 0 then { clock := v.clock, elapsed := v.elapsed, quality := q }
    else g.runStart.getD { clock := v.clock, elapsed := v.elapsed, quality := q }
  let count := min gapRun (g.runCount + 1)
  match g.opened with
  | some o =>
    ({ opened := some { o with windows := saturate max32 (o.windows + 1) }, runCount := count, runStart := some start }, false)
  | none =>
    if g.runCount < gapRun ∧ count = gapRun then
      ({ opened := some { start := start, windows := gapRun }, runCount := count, runStart := some start }, true)
    else ({ opened := none, runCount := count, runStart := some start }, false)

/-- R55, R56: the context after a valid window or the warning. -/
def GapContext.closed : GapContext := { opened := none, runCount := 0, runStart := none }

/-- R55, R56: the record of the open gap, ending at a moment. -/
def GapContext.ending (g : GapContext) (endClock endElapsed : Nat) : Option GapRecord :=
  g.opened.map fun o => o.record endClock endElapsed

/-! ### Restarts (R48, R49) -/

/-- R48, R49: the reduction context as measuring starts after a restart of a kind. -/
def Reduction.resumed (r : Reduction) (kind : RestartKind) : Reduction :=
  let state : RedState := match r.state with | .supplyLost => .interrupted | other => other
  match kind with
  | .cold => r
  | .warm => { r with state := state }
  | .line => { r with state := state, gapInside := true }

/-- R49: the swell context as measuring starts. -/
def Swell.resumed (w : Swell) (kind : RestartKind) : Swell :=
  match kind with
  | .line => { w with gapInside := true }
  | .cold | .warm => w

/-- R49: the measurement-gap context as measuring starts: at LINE an open gap stays open and the run is forgotten. -/
def GapContext.resumed (g : GapContext) (kind : RestartKind) : GapContext :=
  match kind with
  | .line => { g with runCount := 0, runStart := none }
  | .cold | .warm => g

end Sys2Proof.Machine
end

