-- ==== Sys2Proof/Machine/Builder.lean ====
section
/-! DEFINITION. The Burst Builder (R71 to R77): the opening notice, the summary and the expiry. -/

namespace Sys2Proof.Machine

open Sys2Proof

/-- The members of a full list (R71). -/
def burstCapacity : Nat := 8

/-- The record of a member list: a lone member is a REDUCTION (R76), two to eight are a BURST (R77), none is nothing. -/
def burstRecord : List Summary → Option Record
  | [] => none
  | [m] => some (.reduction m)
  | members => some (.burst members)

/-- R73: the builder takes an opening notice. EMPTY stays as it is, a full list is finalized, and otherwise the timer
stops. -/
def Builder.notice (b : Builder) : Builder × Option Record :=
  if b.members.isEmpty then (b, none)
  else if burstCapacity ≤ b.members.length then ({ members := [], timer := none }, burstRecord b.members)
  else ({ b with timer := none }, none)

/-- R72: the builder takes a reduction summary with a burst window in ms. -/
def Builder.summary (b : Builder) (window : Nat) (m : Summary) : Builder × Option Record :=
  if window = 0 then (b, some (.reduction m))
  else ({ members := b.members ++ [m], timer := some (m.closeElapsed + window) }, none)

/-- R74: the timer is RUNNING and elapsed time has reached its expiry time. -/
def Builder.due (b : Builder) (elapsed : Nat) : Bool :=
  match b.timer with
  | none => false
  | some t => decide (t ≤ elapsed)

/-- R74: the timer is RUNNING and its expiry time lies before an elapsed time. -/
def Builder.overdueAt (b : Builder) (elapsed : Nat) : Bool :=
  match b.timer with
  | none => false
  | some t => decide (t < elapsed)

/-- R74: the members are finalized and the builder empties. -/
def Builder.expire (b : Builder) : Builder × Option Record := ({ members := [], timer := none }, burstRecord b.members)

end Sys2Proof.Machine
end

