-- ==== Sys2Proof/Machine/Aggregator.lean ====
section
/-! DEFINITION. The Interval Aggregator (R87 to R98): boundaries, sums, the INTERVAL record, steps, commits, freezes and
restarts. -/

namespace Sys2Proof.Machine

open Sys2Proof

/-! ### Boundaries (R88) -/

/-- The first boundary of a length in minutes that lies strictly after a clock time (R88). -/
def boundaryAfter (minutes clock : Nat) : Nat := (clock / (minutes * 60000) + 1) * (minutes * 60000)

/-- The greatest boundary of a length that is not later than a clock time (R98). -/
def boundaryNotAfter (minutes clock : Nat) : Nat := clock / (minutes * 60000) * (minutes * 60000)

/-- The aggregator is OPEN. -/
def Aggregator.isOpen (a : Aggregator) : Bool := a.interval.isSome && a.freeze.isNone

/-- R88: the next boundary, set afresh from the clock time, the last closed boundary and the length in force. -/
def State.setBoundary (s : State) : State :=
  { s with aggregator := { s.aggregator with
      nextBoundary := boundaryAfter s.bank.inForce.minutes (max s.clock (s.aggregator.lastClosed.getD 0)) } }

/-- R88, R89: a boundary is due: OPEN, and clock time has reached the next boundary. -/
def State.boundaryReached (s : State) : Bool :=
  s.aggregator.isOpen && decide (s.aggregator.nextBoundary ≤ s.clock)

/-! ### Sums (R90, R91) -/

/-- The sums of one phase at opening. -/
def PhaseSums.zero : PhaseSums := { squares := 0, minimum := 0, maximum := 0 }

/-- The opening values of the sums (R87). -/
def Sums.zero : Sums := { phases := { a := .zero, b := .zero, c := .zero }, p := 0, n := 0, cycles := 0, sets := 0 }

/-- One phase's sums with a window's U½ added; the first summed window sets both extremes (R90). -/
def PhaseSums.add (t : PhaseSums) (first : Bool) (u : Nat) : PhaseSums :=
  { squares := t.squares + u * u, minimum := if first then u else min t.minimum u,
    maximum := if first then u else max t.maximum u }

/-- The sums with a valid window added for the considered phases of the interval's arrangement (R90). -/
def Sums.add (t : Sums) (c : PhaseSet) (v : ValueSet) : Sums :=
  let first := t.n == 0
  { t with
    phases := ThreePhase.build fun f => if c.has f then (t.phases.get f).add first (v.u f) else t.phases.get f,
    p := t.p + v.totalP, n := t.n + 1 }

/-- R90: the interval after a window account: its flags, and its sums when the window is valid and not skipped. -/
def Interval.account (i : Interval) (v : ValueSet) (event gap skip : Bool) : Interval :=
  { i with
    flags := { i.flags with eventOverlap := i.flags.eventOverlap || event, gapInside := i.flags.gapInside || gap },
    sums := if v.valid ∧ skip = false then i.sums.add i.arrangement.considered v else i.sums }

/-- R90: the aggregator takes a window with its account. While it is not OPEN it takes none. -/
def Aggregator.account (a : Aggregator) (v : ValueSet) (event gap : Bool) : Aggregator :=
  if a.isOpen then
    { a with interval := a.interval.map fun i => i.account v event gap a.skip, skip := a.skip && ! v.valid }
  else a

/-- R91: the aggregator takes a complete cycle and its length in sets. -/
def Aggregator.cycle (a : Aggregator) (sets : Nat) : Aggregator :=
  if a.isOpen then
    { a with interval := a.interval.map fun i =>
        { i with sums := { i.sums with cycles := i.sums.cycles + 1, sets := i.sums.sets + sets } } }
  else a

/-! ### The INTERVAL record (R92) -/

/-- The network frequency in Hz from the nominal cycle length (R16). -/
def nominalHertz (nominal : Nat) : Nat := if nominal = 160 then 60 else 50

/-- The frequency in mHz over complete cycles, rounded to nearest with ties up (R15). -/
def frequencyOf (cycles sets : Nat) : Nat := (2 * (9600000 * cycles) + sets) / (2 * sets)

/-- R92: the frequency of an interval, absent for too few tracked cycles. -/
def intervalFrequency (hertz openTime cycles sets : Nat) : Option Nat :=
  if cycles = 0 ∨ 2 * cycles < openTime * hertz / 1000 then none else some (frequencyOf cycles sets)

/-- R92: the voltages of a phase. -/
def voltSummary (n : Nat) (t : PhaseSums) : VoltSummary :=
  { agg := isqrt (t.squares / n), minimum := t.minimum, maximum := t.maximum }

/-- R92: the record of an interval that closes with an end clock time, at an elapsed time, with both marks. -/
def Interval.record (i : Interval) (endClock closeElapsed nominal operatorMark consumerMark : Nat) : IntervalRecord :=
  let openTime := closeElapsed - i.start.elapsed
  { startClock := i.start.clock, quality := i.start.quality, endClock := endClock, minutes := i.minutes,
    openTime := openTime, arrangement := i.arrangement, n := i.sums.n,
    volts := ThreePhase.build fun f =>
      if i.sums.n ≠ 0 ∧ i.arrangement.considered.has f then some (voltSummary i.sums.n (i.sums.phases.get f)) else none,
    meanP := if i.sums.n = 0 then none else some (i.sums.p.tdiv i.sums.n),
    frequency := intervalFrequency (nominalHertz nominal) openTime i.sums.cycles i.sums.sets,
    operatorMark := operatorMark, consumerMark := consumerMark, flags := i.flags }

/-- The record of the interval held, closed at an end clock time and an elapsed time; none when there is no interval. -/
def State.intervalRecord (s : State) (endClock closeElapsed : Nat) : List Record :=
  match s.aggregator.interval with
  | none => []
  | some i =>
    [.interval (i.record endClock closeElapsed s.tracker.nominal s.operator.mark s.consumer.mark)]

/-! ### Opening (R89 step 4) -/

/-- R89 step 4: an interval is opened with a start clock time. The flags event overlap and measurement gap inside are set from
the contexts as they stand (R93), and the small-step-used flag is cleared (R125). The skip mark is kept. -/
def State.openInterval (s : State) (startClock : Nat) (adjusted short : Bool) : State :=
  let i : Interval :=
    { start := { clock := startClock, elapsed := s.monitor.elapsed, quality := s.monitor.quality },
      minutes := s.bank.inForce.minutes, arrangement := s.arrangement, sums := .zero,
      flags := { eventOverlap := s.eventOpen, gapInside := s.gapOpen, supplyLost := false, timeAdjusted := adjusted,
                 short := short, afterCommit := false } }
  { s with aggregator := { s.aggregator with interval := some i, freeze := none },
           monitor := { s.monitor with smallStepUsed := false } }

/-- The aggregator with a change made to the flags of its interval. -/
def Aggregator.onFlags (a : Aggregator) (f : IntervalFlags → IntervalFlags) : Aggregator :=
  { a with interval := a.interval.map fun i => { i with flags := f i.flags } }

/-- Time adjusted set on the interval (R93). -/
def State.markAdjusted (s : State) : State :=
  { s with aggregator := s.aggregator.onFlags fun f => { f with timeAdjusted := true } }

/-! ### Time steps (R94, R95) -/

/-- R94: an accepted small step, after the offset has moved; `before` is the clock time just before it. The record is that of
an interval the step closes. -/
def State.intervalStep (s : State) (before : Nat) : State × List Record :=
  let s := s.markAdjusted
  if ! s.aggregator.isOpen then (s, [])
  else if s.aggregator.nextBoundary ≤ s.clock then
    let records := s.intervalRecord before s.monitor.elapsed
    let s := { s with aggregator := { s.aggregator with lastClosed := some s.aggregator.nextBoundary } }
    ((s.openInterval s.clock true false).setBoundary, records)
  else (s.setBoundary, [])

/-- R95: the initial time set, after the offset and the quality have changed; `before` is the clock time just before it. The
record is that of the interval the set closes. -/
def State.intervalInitial (s : State) (before : Nat) : State × List Record :=
  let s := s.markAdjusted
  let opened := s.aggregator.isOpen
  let records := s.intervalRecord before s.monitor.elapsed
  let s := { s with aggregator := { s.aggregator with lastClosed := none } }
  if opened then ((s.openInterval s.clock true false).setBoundary, records) else (s, [])

/-! ### Commits (R96) -/

/-- R96: the commit notice, on the interval opened at the boundary; `stepped` says that the commit held a joint step. -/
def State.commitNotice (s : State) (stepped : Bool) : State :=
  let clock := s.clock
  let interval := s.aggregator.interval.map fun i =>
    { i with
      start := if stepped then { i.start with clock := clock } else i.start,
      minutes := s.bank.inForce.minutes, arrangement := s.arrangement, sums := .zero,
      flags := { i.flags with afterCommit := true, timeAdjusted := i.flags.timeAdjusted || stepped } }
  let s := { s with aggregator := { s.aggregator with
      interval := interval, skip := true, lastClosed := if stepped then none else s.aggregator.lastClosed } }
  s.setBoundary

/-! ### Freezes and restarts (R97, R98) -/

/-- R97: the aggregator takes the supply-fail warning. -/
def Aggregator.freezeSupply (a : Aggregator) (now : Stamp) : Aggregator :=
  let mark : IntervalFlags → IntervalFlags := fun f => { f with supplyLost := true, eventOverlap := true }
  match a.interval, a.freeze with
  | none, _ => a
  | some _, none => { a.onFlags mark with freeze := some { clock := now.clock, elapsed := now.elapsed, cause := .supply } }
  | some _, some z =>
    match z.cause with
    | .supply => a
    | .reset => { a.onFlags mark with freeze := some { z with cause := .supply } }

/-- R97: intake stops because the reset line is held low. -/
def Aggregator.freezeReset (a : Aggregator) (now : Stamp) : Aggregator :=
  if a.isOpen then
    { a.onFlags fun f => { f with gapInside := true } with
      freeze := some { clock := now.clock, elapsed := now.elapsed, cause := .reset } }
  else a

/-- R98 step 1: the record of the frozen interval, closed at its freeze. -/
def State.frozenRecord (s : State) : List Record :=
  match s.aggregator.freeze with
  | none => []
  | some z => s.intervalRecord z.clock z.elapsed

/-- R98 steps 2 to 4: the last closed boundary, the short interval and the next boundary, as measuring starts. -/
def State.intervalRestart (s : State) : State :=
  let s := { s with aggregator := { s.aggregator with
      lastClosed := some (boundaryNotAfter s.bank.inForce.minutes s.clock) } }
  (s.openInterval s.clock false true).setBoundary

end Sys2Proof.Machine
end

