-- ==== Sys2Proof/Machine/Window.lean ====
section
/-! DEFINITION. A window: what its value set does to the tracker's reference, the three contexts, the Estimator, the builder,
the matrix, the store and the aggregator (R13, R28, R38 to R64, R90). -/

namespace Sys2Proof.Machine

open Sys2Proof

/-! ### The contexts, the Estimator, the builder and the aggregator -/

/-- R39, R54: an invalid window holds the reduction and swell contexts; the twentieth in a row opens a gap, which sets gap
inside on the open contexts and empties the ring (R62). A set skip mark is cleared (R61). -/
def State.invalidWindow (s : State) (v : ValueSet) : State :=
  let gapBefore := s.gapOpen
  let g := s.gap.invalid v s.tracker.setQuality
  let estimator := s.estimator.window .neither v
  let s :=
    if g.2 then
      { s with
        gap := g.1, estimator := estimator.emptied,
        reduction := s.reduction.map fun r => { r with gapInside := true },
        swell := s.swell.map fun w => { w with gapInside := true } }
    else { s with gap := g.1, estimator := estimator }
  { s with aggregator := s.aggregator.account v s.eventOpen (gapBefore || s.gapOpen) }

/-- The reduction context of a step with a DIP window added to the accumulators (R60, R64). -/
def RedStep.accumulated (t : RedStep) (kind : WindowKind) (v : ValueSet) : Option Reduction :=
  t.context.map fun r => if kind = .dip then { r with dir := r.dir.accumulate v r.spannedLoss } else r

/-- What the builder makes of a step: the opening notice of an opening (R73), the summary of a close (R45, R72). -/
def RedStep.build (t : RedStep) (context : Option Reduction) (set : Settings) (v : ValueSet) (b : Builder) :
    Builder × Option Record :=
  if t.opened then b.notice
  else
    match t.closing, context with
    | true, some r => b.summary set.burstWindow (r.summary set v)
    | _, _ => (b, none)

/-- R40, R50, R55: a valid window. The notice of R60 follows the checks, so that an opening window is added against the
references its opening took, and a closing one before the verdict. -/
def State.validWindow (s : State) (v : ValueSet) : State :=
  let set := s.bank.inForce
  let c := s.considered
  let eventBefore := s.eventOpen
  let gapBefore := s.gapOpen
  let step := reductionWindow set c v s.tracker.setQuality s.estimator.ring s.reduction
  let kind := windowKind true v.tracker (s.reduction.map (·.state)) step.after
  let context := step.accumulated kind v
  let built := step.build context set v s.builder
  let swell := swellWindow set c v s.tracker.setQuality s.swell
  let gapRecord := s.gap.ending v.clock v.elapsed
  let s :=
    { s with
      reduction := if step.closing then none else context, swell := swell.1, gap := .closed,
      estimator := s.estimator.window kind v, builder := built.1 }
  let s := { s with aggregator := s.aggregator.account v (eventBefore || s.eventOpen) gapBefore }
  s.deliver ((gapRecord.map Record.gap).toList ++ built.2.toList ++ (swell.2.map Record.swell).toList)

/-- R28: the Event Detector takes a window, and with it the Estimator, the builder and the aggregator. -/
def State.takeWindow (s : State) (v : ValueSet) : State := if v.valid then s.validWindow v else s.invalidWindow v

/-! ### The tracker's review of its reference (R8, R11, R13) -/

/-- The least U½ of an eligible phase in dh (R8). -/
def eligibleLevel : Nat := 2000

/-- R8: a phase is eligible when it is considered and its last U½ is at least 2,000 dh. -/
def eligible (c : PhaseSet) (lastU : ThreePhase Nat) (f : Phase) : Bool := c.has f && decide (eligibleLevel ≤ lastU.get f)

/-- The lowest-lettered eligible phase (R11, R13). -/
def lowestEligible (c : PhaseSet) (lastU : ThreePhase Nat) : Option Phase := [Phase.a, .b, .c].find? (eligible c lastU)

/-- The tracker moved to a state and a reference outside TRACKING: a changed reference empties the crossing memory and makes
the last crossing direction unknown, and the cycle-in-progress mark is cleared (R9, R11, R13). R13 returns the low-window
count to 0 as the tracker leaves TRACKING; that it returns to 0 also at a move made by R11's review is log 47. -/
def Tracker.moveTo (t : Tracker) (state : TrackState) (ref : Phase) : Tracker :=
  if ref = t.ref then { t with state := state, cycleMark := false, lowCount := 0 }
  else
    { t with state := state, ref := ref, cycleMark := false, lowCount := 0, sincePos := none, sinceNeg := none,
             lastDir := none }

/-- The move off a reference that is not eligible: SEARCH on the lowest-lettered eligible phase, or FREE_RUN on A
(R11, R13). -/
def Tracker.leaveReference (t : Tracker) (c : PhaseSet) : Tracker :=
  match lowestEligible c t.lastU with
  | some f => t.moveTo .search f
  | none => t.moveTo .freeRun .a

/-- R11, R13: the tracker takes a window's U½ values. In TRACKING it leaves the reference at the second low window in a row;
in SEARCH and FREE_RUN it reviews the reference at every window. -/
def Tracker.review (t : Tracker) (c : PhaseSet) (v : ValueSet) : Tracker :=
  let t := { t with lastU := ThreePhase.build v.u }
  if t.state = .tracking then
    if t.lastU.get t.ref < eligibleLevel then
      if 2 ≤ t.lowCount + 1 then t.leaveReference c else { t with lowCount := t.lowCount + 1 }
    else { t with lowCount := 0 }
  else if eligible c t.lastU t.ref then t
  else t.leaveReference c

/-! ### The burst timer (R74) -/

/-- R74: the held members are finalized and the builder empties. -/
def State.expireBurst (s : State) : State :=
  { s with builder := s.builder.expire.1 }.deliver s.builder.expire.2.toList

/-- R74: an opening at an elapsed time later than the expiry time finds the timer already expired: an expiry that is overdue
then is taken first. At the expiry time itself either may come first. While the part does not measure the builder takes no
expiry (R75; log 30). -/
def State.settleBurst (s : State) (elapsed : Nat) : State :=
  if s.running && s.builder.overdueAt elapsed then s.expireBurst else s

/-! ### A boundary (R14, R19) -/

/-- R19, R28: a boundary falls with a window length; the value set is issued and taken by its users, in one step, so that no
request falls between the issue and the taking (log 40). A burst expiry that was due before the boundary comes first (R74). -/
def State.placeBoundary (s : State) (n : Nat) : State :=
  let s := { s with tracker := { s.tracker with sinceBoundary := 0, firstBoundary := false } }
  let v := s.valueSet n
  let s := { s with engine := { s.engine with latest := some v }, tracker := s.tracker.review s.considered v }
  (s.settleBurst v.elapsed).takeWindow v

/-- R10: the reference is lost: FREE_RUN on the same reference, with a boundary of the nominal cycle length. -/
def State.loseReference (s : State) : State :=
  let s := { s with tracker := { s.tracker with state := .freeRun, cycleMark := false } }
  s.placeBoundary s.tracker.nominal

/-- R11: a free-run boundary of the nominal cycle length. -/
def State.freeRunBoundary (s : State) : State := s.placeBoundary s.tracker.nominal

/-- R10: TRACKING, and 256 sets since the last boundary. -/
def Tracker.lossDue (t : Tracker) : Bool := t.state == .tracking && decide (256 ≤ t.sinceBoundary)

/-- R11: the sets after which a free-run boundary falls: the nominal cycle for the first boundary, then the half cycle. -/
def Tracker.freeRunLength (t : Tracker) : Nat := if t.firstBoundary then t.nominal else t.nominal / 2

/-- R11: FREE_RUN or SEARCH, and the free-run boundary is due. -/
def Tracker.freeRunDue (t : Tracker) : Bool := t.state != .tracking && decide (t.freeRunLength ≤ t.sinceBoundary)

/-- The boundary that is due falls, if one is (log 3): the engine issues its value set before the next set (R19). -/
def State.settleBoundary (s : State) : State :=
  if s.tracker.lossDue then s.loseReference
  else if s.tracker.freeRunDue then s.freeRunBoundary
  else s

end Sys2Proof.Machine
end

