-- ==== Sys2Proof/Machine/Intake.lean ====
section
/-! DEFINITION. Sets handed on: the receiver's continuity check and substitutions (R3 to R6), the history (R18), and the
tracker's crossings (R9, R10, R12, R15). -/

namespace Sys2Proof.Machine

open Sys2Proof

/-! ### Crossings (R9, R10, R12, R15) -/

/-- The least spacing of counted crossings of one direction in sets (R9). -/
def crossingSpacing : Nat := 128

/-- The crossing memory of a direction. -/
def Tracker.since (t : Tracker) : Direction → Option Nat
  | .positive => t.sincePos
  | .negative => t.sinceNeg

/-- The tracker with the crossing memory of a direction restarted at 0 (R9). -/
def Tracker.countCrossing (t : Tracker) : Direction → Tracker
  | .positive => { t with sincePos := some 0 }
  | .negative => { t with sinceNeg := some 0 }

/-- The sign of a reference value: non-negative is positive-going, negative is negative-going (R9). -/
def signOf (x : Int) : Direction := if 0 ≤ x then .positive else .negative

/-- R9: the crossing found at a set with a reference value, if its sign differs from the last crossing direction. -/
def Tracker.crossing (t : Tracker) (x : Int) : Option Direction :=
  match t.lastDir with
  | none => none
  | some d => if d = signOf x then none else some (signOf x)

/-- R9: a crossing is counted when none of its direction is held, or 128 sets or more have passed since. -/
def Tracker.counts (t : Tracker) (d : Direction) : Bool :=
  match t.since d with
  | none => true
  | some k => decide (crossingSpacing ≤ k)

/-- R10, R12: the window length from the span since the previous counted crossing of the direction. -/
def Tracker.spanLength (t : Tracker) (d : Direction) : Nat :=
  match t.since d with
  | none => t.nominal
  | some k => max 128 (min 256 k)

/-- R15: the length of the cycle that a counted crossing completes, if it completes one. -/
def Tracker.cycleEnding (t : Tracker) (d : Direction) : Option Nat :=
  if t.state = .tracking ∧ d = Direction.positive ∧ t.cycleMark = true then t.sincePos else none

/-- The tracker with one more set handed on (R8). -/
def Tracker.oneMore (t : Tracker) (now : Stamp) : Tracker :=
  { t with sinceBoundary := t.sinceBoundary + 1, sincePos := t.sincePos.map (· + 1), sinceNeg := t.sinceNeg.map (· + 1),
           setElapsed := now.elapsed, setClock := now.clock, setQuality := now.quality }

/-- R10, R12, R15: a counted crossing. In TRACKING it may complete a cycle and ends a window; in SEARCH and FREE_RUN a
positive-going one on a reference whose last U½ is at least 2,000 dh returns the tracker to TRACKING. -/
def State.countedCrossing (s : State) (d : Direction) : State :=
  let n := s.tracker.spanLength d
  let ending := s.tracker.cycleEnding d
  let t := s.tracker.countCrossing d
  if s.tracker.state = .tracking then
    let s :=
      { s with
        tracker := if d = Direction.positive then { t with cycleMark := true } else t,
        aggregator := match ending with | none => s.aggregator | some k => s.aggregator.cycle k }
    s.placeBoundary n
  else if d = Direction.positive ∧ eligibleLevel ≤ t.lastU.get t.ref then
    { s with tracker := { t with state := .tracking, lowCount := 0, cycleMark := true } }.placeBoundary n
  else { s with tracker := t }

/-- R9: the tracker examines a set's reference value. -/
def State.examine (s : State) (x : Int) : State :=
  let found := s.tracker.crossing x
  let s' := { s with tracker := { s.tracker with lastDir := some (signOf x) } }
  match found with
  | none => s'
  | some d => if s.tracker.counts d then s'.countedCrossing d else s'

/-! ### Handing on (R6, R18) -/

/-- The sets held in the history and the marks (R2, R17). -/
def historyCapacity : Nat := 256

/-- R6: the clipped mark of a set: a voltage channel of a considered phase is overrange. -/
def clippedMark (c : PhaseSet) (x : SampleSet) : Bool := anyIn c x.overrange

/-- R6, R18: a set is handed on to the history, with its marks, and to the tracker. A boundary that was due falls first. -/
def State.handOn (s : State) (x : SampleSet) (substituted : Bool) : State :=
  let s := s.settleBoundary
  let mark : SetMarks := { substituted := substituted, clipped := clippedMark s.considered x }
  let s :=
    { s with
      link := { s.link with marks := (mark :: s.link.marks).take historyCapacity },
      engine := { s.engine with history := (x :: s.engine.history).take historyCapacity },
      tracker := s.tracker.oneMore s.now }
  s.examine (x.voltage s.tracker.ref)

/-- R6: a substitution is handed on: a copy of the last good set as it stands, and L advances by one. -/
def State.substitute (s : State) : State :=
  { s with link := { s.link with lastNumber := s.link.lastNumber + 1 } }.handOn s.link.lastGood true

/-- `n` substitutions in a row. -/
def State.substitutes : Nat → State → State
  | 0, s => s
  | n + 1, s => State.substitutes n s.substitute

/-! ### The receiver (R3 to R5) -/

/-- R5: the silence count has reached 3 and the entry into SILENT is due. -/
def Link.silenceDue (l : Link) : Bool := l.state == .running && decide (3 ≤ l.silence)

/-- R5: the link enters SILENT and three substitutions are handed on. -/
def State.enterSilent (s : State) : State :=
  State.substitutes 3 { s with link := { s.link with state := .silent } }

/-- The entry into SILENT that is due happens, if one is (log 3). -/
def State.settleSilence (s : State) : State := if s.link.silenceDue then s.enterSilent else s

/-- A set is taken into the stream: it becomes the last good set, L its number, and the re-base mark is cleared (R3, R5). -/
def State.takeSet (s : State) (number : Byte) (x : SampleSet) : State :=
  { s with link := { s.link with lastGood := x, lastNumber := number, rebase := false } }.handOn x false

/-- R3, R5: a good transfer with a number and a set. -/
def State.goodSet (s : State) (number : Byte) (x : SampleSet) : State :=
  let silent := s.link.state == .silent
  let s := { s with link := { s.link with state := .running, silence := 0 } }
  if silent || s.link.rebase then s.takeSet number x
  else
    let k := (number - s.link.lastNumber).toNat
    if k = 0 then s else (State.substitutes (k - 1) s).takeSet number x

/-- R4: a failed transfer: one substitution while RUNNING, nothing while SILENT. -/
def State.failedSet (s : State) : State :=
  if s.link.state = .running then { s with link := { s.link with silence := 0 } }.substitute else s

/-- R1, R3, R4: a transfer arrives and is judged by its bytes. While intake is stopped it is not taken (R2). -/
def State.transfer (s : State) (bytes : List Byte) : State :=
  if s.running then
    let s := s.settleSilence
    if transferGood bytes then s.goodSet (byteAt bytes 0) (sampleSetOf bytes) else s.failedSet
  else s

/-- R5: one link tick. -/
def State.tick (s : State) : State :=
  if s.running then
    let s := s.settleSilence
    match s.link.state with
    | .running => { s with link := { s.link with silence := s.link.silence + 1 } }
    | .silent => s.substitute
  else s

end Sys2Proof.Machine
end

