-- ==== Sys2Proof/Machine/Link.lean ====
section
/-! DEFINITION. The commands of the sample link and the tracker: GOOD_TRANSFER, FAILED_TRANSFER, LINK_TICK, SILENT_ENTRY,
REFERENCE_LOSS, FREE_RUN_BOUNDARY. -/

namespace Sys2Proof.Machine

open Sys2Proof

/-- GOOD_TRANSFER (R3, R5): a transfer arrives and is judged by R1; this row's is good. -/
def execGoodTransfer (bytes : List Byte) (s : State) : Host.Outcome State Fault Refusal := .next (s.transfer bytes)

/-- FAILED_TRANSFER (R4): a transfer arrives and is judged by R1; this row's has failed. -/
def execFailedTransfer (bytes : List Byte) (s : State) : Host.Outcome State Fault Refusal := .next (s.transfer bytes)

/-- LINK_TICK (R5). -/
def execLinkTick (s : State) : Host.Outcome State Fault Refusal := .next s.tick

/-- SILENT_ENTRY (R5): it acts when the silence count has reached 3. -/
def execSilentEntry (s : State) : Host.Outcome State Fault Refusal :=
  .next (if s.running && s.link.silenceDue then s.enterSilent else s)

/-- REFERENCE_LOSS (R10): it acts when the samples-since-boundary count has reached 256 in TRACKING. -/
def execReferenceLoss (s : State) : Host.Outcome State Fault Refusal :=
  .next (if s.running && s.tracker.lossDue then s.loseReference else s)

/-- FREE_RUN_BOUNDARY (R11): it acts when the count has reached the length due in FREE_RUN or SEARCH. -/
def execFreeRunBoundary (s : State) : Host.Outcome State Fault Refusal :=
  .next (if s.running && s.tracker.freeRunDue then s.freeRunBoundary else s)

end Sys2Proof.Machine
end

