-- ==== Sys2Proof/Machine/Commit.lean ====
section
/-! DEFINITION. The boundary (R89) and the commit (R126, R146 to R151). -/

namespace Sys2Proof.Machine

open Sys2Proof

/-! ### What a pair holds -/

/-- The changes of a matched pair: either slot, since both hold the same set (R148). -/
def Bank.matchedChanges (b : Bank) : List Change := (b.operatorSlot.map (·.changes)).getD []

/-- The value that changes give an index. -/
def changeFor (changes : List Change) (index : Nat) : Option Int := (changes.find? fun c => c.index == index).map (·.value)

/-- The changes in order of index (R149). No index appears twice in a slot (R142). -/
def inIndexOrder (changes : List Change) : List Change :=
  (List.range 15).filterMap fun i => changes.find? fun c => c.index == i

/-- R149: a change with its old value: the value in force of a standing setting, 0 for setting 13. -/
def changedOf (set : Settings) (c : Change) : Changed := { index := c.index, old := (set.value c.index : Nat), new := c.value }

/-- The settings with the standing settings of changes put in (R147 step 1, R141). -/
def Settings.putAll (set : Settings) (changes : List Changed) : Settings :=
  changes.foldl (fun t c => t.put c.index c.new.toNat) set

/-! ### The judgement (R146) -/

/-- R146: the conditions of a commit at a boundary notice. -/
def State.commitDue (s : State) : Bool :=
  s.bank.matched && s.reduction.isNone && s.swell.isNone && s.builder.members.isEmpty
    && (s.store.state != .held || (changeFor s.bank.matchedChanges 14).isSome)
    && s.store.state != .resetting

/-! ### A commit without setting 14 (R147, R149, R150) -/

/-- R126: the clock offset after a joint step of `seconds`, with clock time clamped to its range. -/
def State.jointStep (s : State) (seconds : Int) : State :=
  { s with monitor := { s.monitor with
      offset := clamp 0 max48 ((s.clock : Int) + seconds * 1000) - s.monitor.elapsed } }

/-- The bank with both slots empty (R147 step 4, R151 step 3). -/
def Bank.emptied (b : Bank) : Bank := { b with operatorSlot := none, consumerSlot := none }

/-- R147 steps 1 to 4: the settings in force, the SETTINGS record stamped with the boundary, the area write and the slots. -/
def State.commitRecord (s : State) (boundary : Nat) : State :=
  let changes := (inIndexOrder s.bank.matchedChanges).map (changedOf s.bank.inForce)
  let record : SettingsRecord :=
    { stamp := { s.now with clock := boundary }, changes := changes, restated := false }
  let values := s.bank.inForce.putAll changes
  let number := s.store.newestAssigned + 1
  let queued := s.store.accepts
  let s := { s with bank := { s.bank.emptied with inForce := values } }
  (s.handOver (.settings record)).writeArea
    { values := some values,
      lastChange := some (some { changes := changes, mark := if queued then .queued number else .heldBack }),
      lastApplied := if queued then some number else none }

/-- R147 step 5, R151 step 4: the commit notice to the Estimator and the aggregator, with the joint step it holds. -/
def State.commitNotices (s : State) (step : Option Int) : State :=
  let s := { s with estimator := s.estimator.committed }
  match step with
  | some seconds => (s.jointStep seconds).commitNotice true
  | none => s.commitNotice false

/-! ### The epoch commit (R151) -/

/-- R151 step 1: the area is written before the store enters RESETTING, so the writes under way and this one are complete
here (log 16). -/
def State.writeEpoch (s : State) (epoch : Nat) : State :=
  let w : AreaWrite := { epoch := some epoch, lastApplied := some 0, lastChange := some none, resetMark := some true }
  { s with bank := { s.bank with area := s.bank.areaAhead.apply w, areaWrites := [] } }

/-- R151 steps 1 to 3: the area, the store's epoch reset and the slots. -/
def State.commitEpoch (s : State) (epoch : Nat) : State :=
  let s := (s.writeEpoch epoch).beginReset
  { s with bank := s.bank.emptied }

/-! ### The boundary -/

/-- R146: the Bank takes a boundary notice. -/
def State.boundaryNotice (s : State) (boundary : Nat) : State :=
  if s.commitDue then
    let changes := s.bank.matchedChanges
    match changeFor changes 14 with
    | some epoch => (s.commitEpoch epoch.toNat).commitNotices none
    | none => (s.commitRecord boundary).commitNotices (changeFor changes 13)
  else s

/-- R89: the aggregator takes the boundary that is due. -/
def State.takeBoundary (s : State) : State :=
  let boundary := s.aggregator.nextBoundary
  let s := s.deliver (s.intervalRecord boundary s.monitor.elapsed)
  let s := { s with aggregator := { s.aggregator with lastClosed := some boundary } }
  (((s.openInterval boundary false false).setBoundary).boundaryNotice boundary).finish

end Sys2Proof.Machine
end

