-- ==== Sys2Proof/Machine/Payloads.lean ====
section
/-! DEFINITION. The payloads of the replies that complete at taking (R175). -/

namespace Sys2Proof.Machine

open Sys2Proof

/-! ### Slots (R142, R175) -/

/-- The state of a slot, coded 0 EMPTY, 1 LODGED, 2 MATCHED (R142, R175). -/
def Bank.slotCode (b : Bank) (p : Port) : Nat :=
  match b.slot p with
  | none => 0
  | some _ => if b.matched then 2 else 1

/-- The slots byte: the operator slot in bits 1 to 0, the consumer slot in bits 3 to 2 (R175). -/
def Bank.slotsByte (b : Bank) : Byte := packed (b.slotCode .operator + 4 * b.slotCode .consumer)

/-! ### STATUS (R161, R122, R138) -/

/-- The held-back total: the sum of the eight counts of an open episode (R122). -/
def Store.heldTotal (t : Store) : Nat :=
  match t.episode with
  | none => 0
  | some e => e.counts.total

/-- The store's group of a STATUS payload (R122). -/
def Store.statusGroup (t : Store) : List Byte :=
  leBytes 2 t.epoch ++ leBytes 4 (t.oldest.getD 0) ++ leBytes 4 t.newest ++ leBytes 4 t.newestQueued
    ++ leBytes 1 t.queue.length ++ [packed t.state.code] ++ leBytes 4 t.heldTotal

/-- The clock's group of a STATUS payload (R138). -/
def State.clockGroup (s : State) : List Byte :=
  leBytes 6 s.clock ++ [packed (bitAt 0 s.monitor.quality.bit + bitAt 1 s.monitor.smallStepUsed)]
    ++ leBytes 6 s.monitor.elapsed ++ [packed s.monitor.lastKind.code]

/-- The STATUS payload of a port (R175). -/
def State.statusPayload (s : State) (p : Port) : List Byte :=
  s.store.statusGroup ++ leBytes 4 (s.port p).mark ++ leBytes 4 (s.port p.other).mark ++ s.clockGroup
    ++ [s.bank.slotsByte, trackerByte s.tracker.state s.tracker.ref]
    ++ leBytes 2 (s.port p).checkFailures ++ leBytes 2 (s.port p).lengthFailures ++ leBytes 2 (s.port p).notify

/-! ### READ LIVE (R164, R175) -/

/-- The values of one phase in the engine part. -/
def PhaseValues.bytes (v : PhaseValues) : List Byte :=
  leBytes 2 v.u ++ leBytes 2 v.i ++ leSigned 2 v.p ++ leBytes 3 v.s

/-- The window byte of the engine part. -/
def ValueSet.windowByte (v : ValueSet) : Byte :=
  packed (bitAt 0 v.valid + bitAt 1 v.clipped + bitAt 2 v.arrangement.bit + bitAt 3 v.phases.a.considered
    + bitAt 4 v.phases.b.considered + bitAt 5 v.phases.c.considered)

/-- The engine part: the latest value set whole (R27). -/
def ValueSet.livePart (v : ValueSet) : List Byte :=
  leBytes 6 v.elapsed ++ leBytes 6 v.clock ++ leBytes 2 v.n ++ [trackerByte v.tracker v.ref]
    ++ leBytes 2 v.substitutions ++ [v.windowByte] ++ v.phases.a.bytes ++ v.phases.b.bytes ++ v.phases.c.bytes
    ++ leSigned 3 v.totalP ++ leBytes 3 v.totalS

/-- The flags of an open reduction: bits 0 to 5 as in the record, bit 4 marking a duration so far that saturated. -/
def Reduction.liveFlags (r : Reduction) (now : Nat) : Byte :=
  packed (bitAt 0 r.gapInside + bitAt 1 r.clippedInside + bitAt 2 r.spannedLoss + bitAt 3 r.startedAtLoss
    + bitAt 4 (durationSaturates r.start.elapsed now) + bitAt 5 r.interruption.isSome)

/-- The reduction part at an elapsed time (R58). -/
def reductionPart (context : Option Reduction) (now : Nat) : List Byte :=
  match context with
  | none => List.replicate 17 0
  | some r =>
    [packed (redStateCode (some r))] ++ leBytes 6 r.start.clock ++ leBytes 4 (durationOf r.start.elapsed now)
      ++ [phasesByte r.residualPhase r.phases false] ++ leBytes 2 r.residual
      ++ leBytes 2 ((r.interruption.map (·.entries)).getD 0) ++ [r.liveFlags now]

/-- The flags of an open swell: bits 0 to 3 as in the record, bit 3 marking a duration so far that saturated. -/
def Swell.liveFlags (w : Swell) (now : Nat) : Byte :=
  packed (bitAt 0 w.clippedInside + bitAt 1 w.gapInside + bitAt 2 w.endedBySupplyLoss
    + bitAt 3 (durationSaturates w.start.elapsed now))

/-- The swell part at an elapsed time (R58). -/
def swellPart (context : Option Swell) (now : Nat) : List Byte :=
  match context with
  | none => List.replicate 15 0
  | some w =>
    [packed 1] ++ leBytes 6 w.start.clock ++ leBytes 4 (durationOf w.start.elapsed now) ++ leBytes 2 w.maximum
      ++ [phasesByte w.maximumPhase w.phases false, w.liveFlags now]

/-- The measurement-gap part (R58). -/
def GapContext.livePart (g : GapContext) : List Byte :=
  [packed (bitAt 0 g.opened.isSome)] ++ leBytes 1 g.runCount ++ leBytes 4 ((g.opened.map (·.windows)).getD 0)

/-- The Estimator part: the direction fields are shown while a reduction is open (R70). -/
def estimatorPart (e : Estimator) (dir : Option DirectionFields) : List Byte :=
  let ref := dir.bind (·.ref)
  leBytes 1 e.ring.length
    ++ [packed (bitAt 0 e.skip + bitAt 1 ref.isSome + bitAt 2 ((dir.map (·.frozen)).getD false))]
    ++ leSigned 3 ((ref.map (·.p)).getD 0) ++ leBytes 3 ((ref.map (·.s)).getD 0) ++ leBytes 4 ((dir.map (·.count)).getD 0)

/-- The builder part (R85). -/
def Builder.livePart (b : Builder) : List Byte :=
  [packed (bitAt 0 (! b.members.isEmpty) + bitAt 1 b.timer.isSome)] ++ leBytes 1 b.members.length
    ++ leBytes 6 (b.timer.getD 0)

/-- The READ LIVE payload: the engine part is left out when no value set is present (R33, R175). -/
def State.livePayload (s : State) : List Byte :=
  (s.engine.latest.map ValueSet.livePart).getD [] ++ reductionPart s.reduction s.monitor.elapsed
    ++ swellPart s.swell s.monitor.elapsed ++ s.gap.livePart ++ estimatorPart s.estimator (s.reduction.map (·.dir))
    ++ s.builder.livePart ++ [trackerByte s.tracker.state s.tracker.ref]

/-- The READ LIVE reply's own flags: NO VALUES when no value set is present (R164). -/
def State.liveFlags (s : State) : Nat := if s.engine.latest.isNone then flagNoValues else 0

/-! ### READ MATRIX, READ SETTINGS, COLLECT, TIME -/

/-- The READ MATRIX payload: the cells in the order of R85. -/
def matrixPayload (cells : List Nat) : List Byte := cells.flatMap (leBytes 4)

/-- The value that reading an index gives: 0 for setting 13 and the current epoch for setting 14 (R139, R153). -/
def Bank.valueAt (b : Bank) (index : Nat) : Nat := if index = 14 then b.currentEpoch else b.inForce.value index

/-- One change as a proposal carries it: index and value. -/
def Change.bytes (c : Change) : List Byte := leBytes 1 c.index ++ leSigned 4 c.value

/-- A slot in a READ SETTINGS payload (R153, R175). Its state is coded as in STATUS (log 51), and an EMPTY slot shows pair count 0
and both times 0 (R170; log 42). -/
def Bank.slotPart (b : Bank) (p : Port) : List Byte :=
  match b.slot p with
  | none => List.replicate 14 0
  | some q =>
    leBytes 1 (b.slotCode p) ++ leBytes 1 q.changes.length ++ leBytes 6 q.lodged ++ leBytes 6 q.expiry
      ++ q.changes.flatMap Change.bytes

/-- The READ SETTINGS payload for an index range (R175). -/
def Bank.settingsPayload (b : Bank) (first last : Nat) : List Byte :=
  leBytes 1 first ++ leBytes 1 last
    ++ (List.range (last + 1 - first)).flatMap (fun i => leSigned 4 (b.valueAt (first + i) : Nat))
    ++ b.slotPart .operator ++ b.slotPart .consumer

/-- The COLLECT payload: the mark as it stands, and the epoch (R163, R175). -/
def State.collectPayload (s : State) (p : Port) : List Byte := leBytes 4 (s.port p).mark ++ leBytes 2 s.store.epoch

/-- The TIME payload: clock time and quality, 1 for SET (R175; log 28). -/
def State.timePayload (s : State) : List Byte := leBytes 6 s.clock ++ [packed (bitAt 0 s.monitor.quality.bit)]

end Sys2Proof.Machine
end

