-- ==== Sys2Proof/Machine/Serve.lean ====
section
/-! DEFINITION. What each request does once it is taken (R161 to R168), and the requests that frames hold. -/

namespace Sys2Proof.Machine

open Sys2Proof

/-! ### Requests that only read -/

/-- STATUS (R161). -/
def State.serveStatus (s : State) (p : Port) (tag : Byte) : State := s.complete p 1 tag .ok 0 (s.statusPayload p)

/-- READ RECORDS: a waiting read is placed; bits 7 to 4 of the count byte are ignored (R162, R174). -/
def State.serveReadRecords (s : State) (p : Port) (tag : Byte) (first : BitVec 32) (count : Byte) : State :=
  s.prepare p (.read tag first.toNat (count.toNat % 16 + 1))

/-- READ LIVE (R164). -/
def State.serveReadLive (s : State) (p : Port) (tag : Byte) : State := s.complete p 4 tag .ok s.liveFlags s.livePayload

/-- READ MATRIX (R165). -/
def State.serveReadMatrix (s : State) (p : Port) (tag : Byte) : State := s.complete p 5 tag .ok 0 (matrixPayload s.matrix)

/-- READ SETTINGS (R166). -/
def State.serveReadSettings (s : State) (p : Port) (tag first last : Byte) : State :=
  if 1 ≤ first.toNat ∧ first.toNat ≤ last.toNat ∧ last.toNat ≤ 14 then
    s.complete p 6 tag .ok 0 (s.bank.settingsPayload first.toNat last.toNat)
  else s.complete p 6 tag .range 0 []

/-! ### COLLECT and SET NOTIFY -/

/-- A port's mark after an accepted COLLECT: held at newest committed (R163). -/
def State.setMark (s : State) (p : Port) (number : Nat) : State :=
  s.onPort p fun t => { t with mark := min number s.store.newest }

/-- COLLECT (R163). After an accepted one a HELD store judges its blocked block again (R110). -/
def State.serveCollect (s : State) (p : Port) (tag : Byte) (number : BitVec 32) : State :=
  if number.toNat < (s.port p).mark then s.complete p 3 tag .backward 0 (s.collectPayload p)
  else
    let own := if s.store.newest < number.toNat then flagClamped else 0
    let s := s.setMark p number.toNat
    ((s.complete p 3 tag .ok own (s.collectPayload p)).judgeHeld).finish

/-- The level that a SET NOTIFY value gives: 1 to 4,096 (R152). -/
def notifyLevel (value : Nat) : Nat := max 1 (min 4096 value)

/-- SET NOTIFY (R152, R167). -/
def State.serveSetNotify (s : State) (p : Port) (tag : Byte) (value : BitVec 16) : State :=
  let level := notifyLevel value.toNat
  ((s.onPort p fun t => { t with notify := level }).complete p 10 tag .ok 0 (leBytes 2 level)).finish

/-! ### LODGE and WITHDRAW -/

/-- A pair of a LODGE request as a change: its value is signed (R174). -/
def RawPair.change (r : RawPair) : Change := { index := r.index.toNat, value := r.value.toInt }

/-- R143 check 1, for one change: its index and its value's range. -/
def inRange (epoch : Nat) (c : Change) : Bool :=
  if c.index = 13 then decide (-315360000 ≤ c.value ∧ c.value ≤ 315360000 ∧ c.value ≠ 0)
  else if c.index = 14 then decide (epoch < max16 ∧ c.value = (epoch : Int) + 1)
  else standingInRange c.index c.value

/-- R143 check 2: some index appears twice. -/
def repeatsIndex : List Change → Bool
  | [] => false
  | c :: rest => (rest.any fun d => d.index == c.index) || repeatsIndex rest

/-- A setting as a proposal would leave it (R143 check 4). -/
def laidOver (set : Settings) (changes : List Change) (index : Nat) : Int :=
  (changeFor changes index).getD (set.value index : Nat)

/-- R143 check 4: the thresholds satisfy Ti + H < Td, Td + H < 10,000 and 10,000 < Ts − H. -/
def thresholdsConsistent (td ts ti h : Int) : Bool := decide (ti + h < td ∧ td + h < 10000 ∧ 10000 < ts - h)

/-- R143: the status of a list of changes against the settings in force and the current epoch: the first check that fails
decides. -/
def lodgeStatus (set : Settings) (epoch : Nat) (changes : List Change) : Status :=
  if ¬ (1 ≤ changes.length ∧ changes.length ≤ 8) ∨ ¬ changes.all (inRange epoch) then .range
  else if repeatsIndex changes then .conflict
  else if (changes.any fun c => c.index == 14) ∧ changes.length ≠ 1 then .conflict
  else if ! thresholdsConsistent (laidOver set changes 3) (laidOver set changes 4) (laidOver set changes 5)
      (laidOver set changes 6) then .conflict
  else .ok

/-- The time a proposal stands in ms (R142). -/
def proposalLife : Nat := 7200000

/-- The proposal of changes lodged at an elapsed time (R142). -/
def proposalAt (elapsed : Nat) (changes : List Change) : Proposal :=
  { changes := changes, lodged := elapsed, expiry := elapsed + proposalLife }

/-- LODGE (R143, R166). -/
def State.serveLodge (s : State) (p : Port) (tag : Byte) (pairs : List RawPair) : State :=
  let changes := pairs.map RawPair.change
  let status := lodgeStatus s.bank.inForce s.bank.currentEpoch changes
  if status = .ok then
    let s := { s with bank := s.bank.setSlot p (some (proposalAt s.monitor.elapsed changes)) }
    (s.complete p 7 tag .ok 0 [s.bank.slotsByte]).finish
  else s.complete p 7 tag status 0 []

/-- WITHDRAW (R144, R166). -/
def State.serveWithdraw (s : State) (p : Port) (tag : Byte) : State :=
  let s := { s with bank := s.bank.setSlot p none }
  (s.complete p 8 tag .ok 0 [s.bank.slotsByte]).finish

/-! ### TIME -/

/-- R124: the status of a TIME SET. -/
def timeSetStatus (quality : Quality) (t : Int) : Status :=
  if ¬ (0 ≤ t ∧ t ≤ max48) then .range else if quality = .set then .conflict else .ok

/-- R127: the TIMESTEP record of a change made at this moment. -/
def State.timestepRecord (s : State) (initial : Bool) (p : Port) (before : Nat) : Record :=
  .timestep { initial := initial, port := p, before := before, after := s.clock, elapsed := s.monitor.elapsed,
              quality := s.monitor.quality }

/-- R124: the initial set: the clock, the interval (R95) and the TIMESTEP record. -/
def State.initialSet (s : State) (p : Port) (t : Int) : State :=
  let before := s.clock
  let s := { s with monitor := { s.monitor with offset := t - s.monitor.elapsed, quality := .set } }
  let stepped := s.intervalInitial before
  stepped.1.deliver (stepped.2 ++ [s.timestepRecord true p before])

/-- TIME SET (R124, R167). -/
def State.serveTimeSet (s : State) (p : Port) (tag : Byte) (value : BitVec 64) : State :=
  let status := timeSetStatus s.monitor.quality value.toInt
  let s := if status = .ok then s.initialSet p value.toInt else s
  s.complete p 9 tag status 0 s.timePayload

/-- R125: the status of a TIME STEP. -/
def State.timeStepStatus (s : State) (x : Int) : Status :=
  if x = 0 ∨ 2000 < x.natAbs then .range
  else if s.monitor.quality = .unset then .conflict
  else if s.monitor.smallStepUsed then .limited
  else if ¬ (0 ≤ (s.clock : Int) + x ∧ (s.clock : Int) + x ≤ max48) then .range
  else .ok

/-- R125: the small step: the clock, the interval (R94), the TIMESTEP record, and the small-step-used flag, which stands also
in an interval that the step opened. -/
def State.smallStep (s : State) (p : Port) (x : Int) : State :=
  let before := s.clock
  let s := { s with monitor := { s.monitor with offset := s.monitor.offset + x } }
  let stepped := s.intervalStep before
  let t := stepped.1
  let t := { t with monitor := { t.monitor with smallStepUsed := true } }
  t.deliver (stepped.2 ++ [s.timestepRecord false p before])

/-- TIME STEP (R125, R167). -/
def State.serveTimeStep (s : State) (p : Port) (tag : Byte) (value : BitVec 64) : State :=
  let status := s.timeStepStatus value.toInt
  let s := if status = .ok then s.smallStep p value.toInt else s
  s.complete p 9 tag status 0 s.timePayload

/-- TIME with a form: 0 is SET, 1 is STEP, any other is refused with RANGE (R167, R174). -/
def State.serveTimeForm (s : State) (p : Port) (tag form : Byte) (value : BitVec 64) : State :=
  match form.toNat with
  | 0 => s.serveTimeSet p tag value
  | 1 => s.serveTimeStep p tag value
  | _ => s.complete p 9 tag .range 0 s.timePayload

/-! ### FLUSH -/

/-- FLUSH (R168). One that completes at its taking shows newest queued as its target, as a waiting one keeps it (log 41). -/
def State.serveFlush (s : State) (p : Port) (tag : Byte) : State :=
  let target := s.store.newestQueued
  if s.store.queue.isEmpty ∨ s.store.state = .held then s.completeFlush p tag target
  else s.prepare p (.flush tag target)

/-! ### Frames (R157) -/

/-- What a request command does once taken; a command that is no request does nothing. -/
def State.serve (s : State) : Instr → State
  | .status p tag => s.serveStatus p tag
  | .readRecords p tag first count => s.serveReadRecords p tag first count
  | .collect p tag number => s.serveCollect p tag number
  | .readLive p tag => s.serveReadLive p tag
  | .readMatrix p tag => s.serveReadMatrix p tag
  | .readSettings p tag first last => s.serveReadSettings p tag first last
  | .lodge p tag pairs => s.serveLodge p tag pairs
  | .withdraw p tag => s.serveWithdraw p tag
  | .timeSet p tag value => s.serveTimeSet p tag value
  | .timeStep p tag value => s.serveTimeStep p tag value
  | .timeBadForm p tag form value => s.serveTimeForm p tag form value
  | .setNotify p tag level => s.serveSetNotify p tag level
  | .flush p tag => s.serveFlush p tag
  | .goodTransfer _ | .failedTransfer _ | .linkTick | .silentEntry | .referenceLoss | .freeRunBoundary | .burstExpiry
  | .intervalBoundary | .proposalExpiry _ | .releaseCheck | .heldBackGapQueue | .arbiterGrant | .recordWriteComplete
  | .padFillComplete | .eraseComplete | .resetEraseComplete | .epochWriteComplete | .areaWriteComplete
  | .flushComplete _ | .elapsedTick | .supplyGoodFall | .storeHoldupDone | .supplyCollapse | .supplyGoodRise
  | .steadinessWaitDone _ | .powerUp | .retentionLoss | .resetAssert | .resetRelease _ | .readPeriod _ _
  | .invalidRequestFrame _ _ | .restartScanEnd | .selectPeriodStart _ => s

/-- R157: a frame is checked; it is answered with the failure, or goes to its request rule. -/
def State.serveFrame (s : State) (p : Port) (bytes : List Byte) : State :=
  match frameFailure p bytes with
  | some status => s.refuseFrame p (byteAt bytes 2) (byteAt bytes 3) status
  | none =>
    match requestOf p bytes with
    | some i => s.serve i
    | none => s

end Sys2Proof.Machine
end

