-- ==== Sys2Proof/Machine/Requests.lean ====
section
/-! DEFINITION. The commands of the ports: SELECT_PERIOD_START, READ_PERIOD, INVALID_REQUEST_FRAME and the requests. A request
command stands for the request period that carries its frame and ends now (R155, R157). -/

namespace Sys2Proof.Machine

open Sys2Proof

/-- SELECT_PERIOD_START (R155). -/
def execSelectPeriodStart (p : Port) (s : State) : Host.Outcome State Fault Refusal := .next (s.beginPeriod p)

/-- READ_PERIOD (R156). -/
def execReadPeriod (p : Port) (clocked : Nat) (s : State) : Host.Outcome State Fault Refusal := .next (s.readEnds p clocked)

/-- A period ends after bytes were taken in: fewer than two bytes have no effect, two zero bytes make a read period, and any
other bytes a request period (R155). -/
def State.periodEnds (s : State) (p : Port) (bytes : List Byte) : State :=
  if bytes.length < 2 then s.endPeriod p bytes.length bytes
  else if fieldAt bytes 0 2 = 0 then s.readEnds p bytes.length
  else s.request p bytes fun t => t.serveFrame p bytes

/-- INVALID_REQUEST_FRAME (R157): the bytes are judged; this row's fail a check (log 20). -/
def execInvalidRequestFrame (p : Port) (bytes : List Byte) (s : State) : Host.Outcome State Fault Refusal :=
  .next (s.periodEnds p bytes)

/-- STATUS (R161). -/
def execStatus (p : Port) (tag : Byte) (s : State) : Host.Outcome State Fault Refusal :=
  .next (s.request p (requestFrame p 1 tag []) fun t => t.serveStatus p tag)

/-- READ_RECORDS (R162). -/
def execReadRecords (p : Port) (tag : Byte) (first : BitVec 32) (count : Byte) (s : State) :
    Host.Outcome State Fault Refusal :=
  .next (s.request p (requestFrame p 2 tag (leBytes 4 first.toNat ++ [count])) fun t =>
    t.serveReadRecords p tag first count)

/-- COLLECT (R163). -/
def execCollect (p : Port) (tag : Byte) (number : BitVec 32) (s : State) : Host.Outcome State Fault Refusal :=
  .next (s.request p (requestFrame p 3 tag (leBytes 4 number.toNat)) fun t => t.serveCollect p tag number)

/-- READ_LIVE (R164). -/
def execReadLive (p : Port) (tag : Byte) (s : State) : Host.Outcome State Fault Refusal :=
  .next (s.request p (requestFrame p 4 tag []) fun t => t.serveReadLive p tag)

/-- READ_MATRIX (R165). -/
def execReadMatrix (p : Port) (tag : Byte) (s : State) : Host.Outcome State Fault Refusal :=
  .next (s.request p (requestFrame p 5 tag []) fun t => t.serveReadMatrix p tag)

/-- READ_SETTINGS (R166). -/
def execReadSettings (p : Port) (tag first last : Byte) (s : State) : Host.Outcome State Fault Refusal :=
  .next (s.request p (requestFrame p 6 tag [first, last]) fun t => t.serveReadSettings p tag first last)

/-- The pairs that a request frame of 64 bytes holds at most (R174). -/
def framePairs : Nat := 11

/-- The frame of a LODGE request (R174). -/
def lodgeFrame (p : Port) (tag : Byte) (pairs : List RawPair) : List Byte :=
  requestFrame p 7 tag (BitVec.ofNat 8 pairs.length :: pairs.flatMap pairBytes)

/-- LODGE (R143). More pairs than a frame holds make a frame whose length fails (R157; log 20). -/
def execLodge (p : Port) (tag : Byte) (pairs : List RawPair) (s : State) : Host.Outcome State Fault Refusal :=
  .next (s.request p (lodgeFrame p tag pairs) fun t =>
    if pairs.length ≤ framePairs then t.serveLodge p tag pairs else t.refuseFrame p 7 tag .length)

/-- WITHDRAW (R144). -/
def execWithdraw (p : Port) (tag : Byte) (s : State) : Host.Outcome State Fault Refusal :=
  .next (s.request p (requestFrame p 8 tag []) fun t => t.serveWithdraw p tag)

/-- TIME_SET (R124). -/
def execTimeSet (p : Port) (tag : Byte) (value : BitVec 64) (s : State) : Host.Outcome State Fault Refusal :=
  .next (s.request p (requestFrame p 9 tag (0 :: leBytes 8 value.toNat)) fun t => t.serveTimeSet p tag value)

/-- TIME_STEP (R125). -/
def execTimeStep (p : Port) (tag : Byte) (value : BitVec 64) (s : State) : Host.Outcome State Fault Refusal :=
  .next (s.request p (requestFrame p 9 tag (1 :: leBytes 8 value.toNat)) fun t => t.serveTimeStep p tag value)

/-- TIME_BAD_FORM (R167): a form of 0 or 1 is that of SET or STEP (log 20). -/
def execTimeBadForm (p : Port) (tag form : Byte) (value : BitVec 64) (s : State) : Host.Outcome State Fault Refusal :=
  .next (s.request p (requestFrame p 9 tag (form :: leBytes 8 value.toNat)) fun t => t.serveTimeForm p tag form value)

/-- SET_NOTIFY (R152). -/
def execSetNotify (p : Port) (tag : Byte) (level : BitVec 16) (s : State) : Host.Outcome State Fault Refusal :=
  .next (s.request p (requestFrame p 10 tag (leBytes 2 level.toNat)) fun t => t.serveSetNotify p tag level)

/-- FLUSH (R168). -/
def execFlush (p : Port) (tag : Byte) (s : State) : Host.Outcome State Fault Refusal :=
  .next (s.request p (requestFrame p 11 tag []) fun t => t.serveFlush p tag)

end Sys2Proof.Machine
end

