-- ==== Sys2Proof/Machine/Scan.lean ====
section
/-! DEFINITION. The restart scan (R118 to R121) and the recovery of settings (R141), on the array, the settings area and the
queue. -/

namespace Sys2Proof.Machine

open Sys2Proof

/-! ### Candidates (R118) -/

/-- A candidate block whose first slot holds a well-formed record header: its records in slot order, the first and the last of
them, and where its walk stops. -/
structure Candidate where
  block : Nat
  first : Stored
  last : Stored
  records : List Stored
  stop : WalkEnd
  deriving DecidableEq, Repr

/-- The candidate that a block is, if its first slot holds a well-formed record header. -/
def Memory.candidate (m : Memory) (block : Nat) : Option Candidate :=
  match m.walkBlock block with
  | none => none
  | some (first, rest, stop) =>
    some { block := block, first := first, last := rest.getLast?.getD first, records := first :: rest, stop := stop }

/-- The candidates that the scan tests. -/
def Memory.tested (m : Memory) : List Candidate := m.candidates.filterMap m.candidate

/-- The order of the tests: the highest first number first (R118). The order of equal numbers is free (log 10). -/
def testedBefore (a b : Candidate) : Bool :=
  decide (b.first.number < a.first.number) ||
    (decide (a.first.number = b.first.number) && Config.scanBefore a.block b.block)

/-- A candidate put into a list in the order of the tests. -/
def putCandidate (c : Candidate) : List Candidate → List Candidate
  | [] => [c]
  | d :: rest => if testedBefore c d then c :: d :: rest else d :: putCandidate c rest

/-- The candidates in the order of the tests. -/
def testOrder (cs : List Candidate) : List Candidate := cs.foldr putCandidate []

/-- The candidate of a block. -/
def candidateOf (cs : List Candidate) (block : Nat) : Option Candidate := cs.find? fun c => c.block == block

/-- The kind code of an EPOCH record (R172). -/
def epochCode : Nat := 11

/-- R118: a candidate is confirmed by an EPOCH record that verifies against the seed 0, or by the block before it. -/
def confirmed (cs : List Candidate) (c : Candidate) : Bool :=
  (decide (c.first.code = epochCode) && c.first.chainsFrom 0) ||
    (match candidateOf cs (previousBlock c.block) with
    | none => false
    | some d => decide (d.last.number + 1 = c.first.number) && c.first.chainsFrom d.last.chain)

/-- R118: the newest block: the first candidate confirmed. -/
def newestCandidate (cs : List Candidate) : Option Candidate := (testOrder cs).find? (confirmed cs)

/-- R118: the walk back from a stored block, newest first: it goes on while the block before is a candidate whose last record
carries the number one less, and stops when it has come round to the newest block. The first argument bounds the walk. -/
def walkBack (cs : List Candidate) (newest : Nat) : Nat → Candidate → List Candidate
  | 0, c => [c]
  | fuel + 1, c =>
    match candidateOf cs (previousBlock c.block) with
    | none => [c]
    | some d =>
      if d.block ≠ newest ∧ d.last.number + 1 = c.first.number then c :: walkBack cs newest fuel d else [c]

/-- R118: the stored blocks, from the oldest to the newest. -/
def storedBlocks (cs : List Candidate) : List Candidate :=
  match newestCandidate cs with
  | none => []
  | some c => (walkBack cs c.block blockCount c).reverse

/-- R118: the damaged blocks: every block that is not blank and not a stored block. -/
def Memory.damaged (m : Memory) : List Nat :=
  let stored := storedBlocks m.tested
  m.candidates.filter fun b => ! stored.any fun c => c.block == b

/-! ### What the scan finds (R118, R119) -/

/-- The result of a scan. -/
structure ScanResult where
  stored : List Candidate
  damaged : List Nat
  deriving DecidableEq, Repr

/-- R118: the scan of an array. -/
def Memory.scan (m : Memory) : ScanResult := { stored := storedBlocks m.tested, damaged := m.damaged }

/-- The newest stored block. -/
def ScanResult.newest (r : ScanResult) : Option Candidate := r.stored.getLast?

/-- The stored records, in store order. -/
def ScanResult.records (r : ScanResult) : List Stored := r.stored.flatMap (·.records)

/-- R119: the slot of the write position in the newest block: the blank slot met, or the end of the block. -/
def WalkEnd.writeSlot : WalkEnd → Nat
  | .blank slot => slot
  | .blockEnd | .torn => blockSlots

/-- R119: a damaged block was erased, or a torn tail was found. -/
def ScanResult.tornFound (r : ScanResult) : Bool :=
  ! r.damaged.isEmpty || (match r.newest with | none => false | some c => c.stop == .torn)

/-- The new epoch number in an EPOCH record's bytes (R173). -/
def Stored.newEpoch (r : Stored) : Nat := fieldAt r.bytes 25 2

/-- R119: the store's epoch number: from the EPOCH record if the store holds it, and otherwise the area epoch, less 1 while
the reset mark is set. -/
def ScanResult.epoch (r : ScanResult) (area : Area) : Nat :=
  match r.records.find? fun x => x.code == epochCode with
  | some x => x.newEpoch
  | none => area.epoch - (if area.resetMark then 1 else 0)

/-- R119: the marks in the newest stored INTERVAL record: the operator's and the consumer's. -/
def ScanResult.marks (r : ScanResult) : Option (Nat × Nat) :=
  (r.records.reverse.find? fun x => x.code == 4).map fun x => (fieldAt x.bytes 55 4, fieldAt x.bytes 59 4)

/-- R118, R119: the store as the scan leaves it: damaged blocks erased, the block table, the write position, oldest stored,
newest committed and the epoch number; the arbiter as R102 gives it. -/
def Store.scannedAs (t : Store) (r : ScanResult) (area : Area) : Store :=
  { t with
    array := r.damaged.foldl Memory.eraseBlock t.array,
    blocks := r.stored.map fun c => { block := c.block, first := c.first.number, last := c.last.number },
    wpBlock := (r.newest.map (·.block)).getD 0, wpSlot := (r.newest.map (·.stop.writeSlot)).getD 0,
    oldest := r.stored.head?.map (·.first.number), newest := (r.newest.map (·.last.number)).getD 0,
    newestChain := (r.newest.map (·.last.chain)).getD 0, epoch := r.epoch area, state := .normal, inFlight := none,
    pendingOp := none, resetPhase := none, releaseCheck := none, scanned := true, lastServed := .consumer }

/-! ### The queue (R121) -/

/-- R121: the queue meets the scan's result: entries at or below newest committed leave it (LINE, and WARM after a holdup cut
short, R134). At COLD it is empty already. At WARM after a finished holdup nothing was torn, every entry follows newest
committed, and the queue stands; where an earlier tear proves whole after all, R105 decides and the entry leaves (log 37). -/
def Store.matchQueue (t : Store) : Store := { t with queue := t.queue.filter fun e => decide (t.newest < e.number) }

/-! ### The epoch and the store state (R120) -/

/-- R120: a blank store begins a new epoch: its EPOCH record is to be written, and the area takes the number. The number after
65,535 is free (log 11). The area's new number is an ordinary write that waits its turn beside the EPOCH record's write: a reset
can lose it after the EPOCH record is committed (log 46). The record is made, and its time taken, at the scan's end (log 49). -/
def State.beginEpoch (s : State) : State :=
  let old := s.bank.areaAhead.epoch
  let new := if old < max16 then old + 1 else (Config.epochPastMax s.freeIndex).toNat
  let s := if old < max16 then s else s.useFree
  let record : EpochRecord := { stamp := s.now, note := { oldEpoch := old, newEpoch := new, oldLast := 0, oldChain := 0 } }
  { s with store := { s.store with state := .resetting, resetPhase := some (.epochWrite record) } }.writeArea
    { epoch := some new }

/-- R120: the queue head needs the next block. Slots may be left in the current one: they are filled with PAD markers as the store
leaves HELD (R106; log 38). -/
def Store.headNeedsNext (t : Store) : Bool := ! t.queue.isEmpty && ! t.headFits

/-- R120: the epoch and the store state after the scan: a resumed reset, a new epoch on a blank store, or NORMAL or HELD. -/
def State.settleEpoch (s : State) : State :=
  match s.bank.area.note with
  | some note =>
    { s with store := { s.store with
        state := .resetting, resetPhase := some (.erasing note 0), oldest := none, newest := note.oldLast,
        newestChain := note.oldChain } }
  | none =>
    if s.bank.area.resetMark then
      { s with store := { s.store with state := .resetting, resetPhase := some .drain } }.endDrain
    else if s.store.oldest.isNone then s.beginEpoch
    else if s.store.headNeedsNext && ! s.releasable s.store.blockAhead then s.enterHeld
    else s

/-! ### The recovery of settings (R141) -/

/-- The SETTINGS records above a number, stored or queued, in order of number: each with its number and its changes. -/
def settingsAbove (number : Nat) (records : List Stored) (queue : List Entry) : List (Nat × List Changed) :=
  (records.filter fun r => decide (r.code = 6) && decide (number < r.number)).map (fun r => (r.number, r.changes))
    ++ queue.filterMap fun e =>
      match e.record with
      | .settings r => if number < e.number then some (e.number, r.changes) else none
      | _ => none

/-- R141 case 1: the values of records newer than the area are applied, and the area is written with the newest of them. -/
def State.applyNewer (s : State) (found : List (Nat × List Changed)) : State :=
  match found.getLast? with
  | none => s
  | some (number, changes) =>
    let values := found.foldl (fun set x => set.putAll x.2) s.bank.inForce
    { s with bank := { s.bank with inForce := values } }.writeArea
      { values := some values, lastApplied := some number,
        lastChange := some (some { changes := changes, mark := .queued number }) }

/-- R141 case 2: the last change whose record was lost from the queue. -/
def State.lostChange (s : State) : Option (List Changed) :=
  match s.bank.areaAhead.lastChange with
  | none => none
  | some change =>
    match change.mark with
    | .heldBack => none
    | .queued number =>
      if s.store.newest < number ∧ (s.store.queue.any fun e => e.number == number) = false then some change.changes
      else none

/-- R141 case 2: a restated SETTINGS record is made and handed over, and the area takes what became of it. -/
def State.restate (s : State) (changes : List Changed) : State :=
  let number := s.store.newestAssigned + 1
  let queued := s.store.accepts
  (s.handOver (.settings { stamp := s.now, changes := changes, restated := true })).writeArea
    { lastChange := some (some { changes := changes, mark := if queued then .queued number else .heldBack }),
      lastApplied := if queued then some number else none }

/-- R140, R141: the settings in force are loaded from the area, and then brought up to date when the area epoch is the store's
epoch and no epoch reset is under way (log 18). -/
def State.recoverSettings (s : State) (records : List Stored) : State :=
  let area := s.bank.areaAhead
  let s := { s with bank := { s.bank with inForce := area.values } }
  if area.epoch = s.store.epoch ∧ s.store.state ≠ .resetting then
    let s := s.applyNewer (settingsAbove area.lastApplied records s.store.queue)
    match s.lostChange with
    | none => s
    | some changes => s.restate changes
  else s

end Sys2Proof.Machine
end

