-- ==== Sys2Proof/Machine/Supply.lean ====
section
/-! DEFINITION. The commands of time, supply and the reset line: ELAPSED_TICK, SUPPLY_GOOD_FALL, STORE_HOLDUP_DONE,
SUPPLY_COLLAPSE, SUPPLY_GOOD_RISE, STEADINESS_WAIT_DONE, POWER_UP, RETENTION_LOSS, RESET_ASSERT, RESET_RELEASE. -/

namespace Sys2Proof.Machine

open Sys2Proof

/-! ### The elapsed counter (R123) -/

/-- The elapsed counter one millisecond on; past its greatest value it is free (log 5). -/
def State.countElapsed (s : State) : State :=
  if s.monitor.elapsed < max48 then { s with monitor := { s.monitor with elapsed := s.monitor.elapsed + 1 } }
  else { s.useFree with monitor := { s.monitor with elapsed := (Config.elapsedPastMax s.freeIndex).toNat } }

/-- R123: the monitor keeps clock time in its range; where a tick would take it out, it is free (log 6). -/
def State.keepClock (s : State) : State :=
  let clock : Int := s.monitor.elapsed + s.monitor.offset
  if 0 ≤ clock ∧ clock ≤ max48 then s
  else { s.useFree with monitor := { s.monitor with
      offset := ((Config.clockPastMax s.freeIndex).toNat : Int) - s.monitor.elapsed } }

/-- ELAPSED_TICK (R123): in every monitor state, but for a counter that stopped with its backup cell (R132). -/
def execElapsedTick (s : State) : Host.Outcome State Fault Refusal :=
  .next (if s.monitor.counterStopped then s else s.countElapsed.keepClock)

/-! ### Operations cut short (R117, R129) -/

/-- The array with a write of slots cut short: whole slots as written, then one slot whose bytes are free (log 8). -/
def Memory.tornWrite (m : Memory) (k a : Nat) (bytes : List Byte) : Memory :=
  let whole := Config.wholeSlots k % (bytes.length / slotBytes + 1)
  let m' := Memory.writeBytes m a (bytes.take (whole * slotBytes))
  if whole * slotBytes < bytes.length then Memory.fill m' (a + whole * slotBytes) slotBytes (Config.tornByte k) else m'

/-- The array with a PAD fill of `n` slots cut short: some of them hold PAD markers and the others stay blank (log 8). -/
def Memory.tornPad (m : Memory) (k a : Nat) : Nat → Memory
  | 0 => m
  | n + 1 =>
    let m' := Memory.tornPad m k a n
    if Config.padFilled k n then Memory.writeBytes m' (a + n * slotBytes) (List.replicate slotBytes 0) else m'

/-- The array after its operation in flight was cut short (R117, R129). -/
def Store.tornArray (t : Store) (k : Nat) : InFlight → Memory
  | .recordWrite bytes _ =>
    Memory.tornWrite t.array k (slotAddress t.wpBlock t.wpSlot) bytes
  | .epochWrite bytes _ => Memory.tornWrite t.array k (slotAddress 0 0) bytes
  | .padFill => Memory.tornPad t.array k (slotAddress t.wpBlock t.wpSlot) t.slotsLeft
  | .eraseBlock block => Memory.fill t.array (slotAddress block 0) blockBytes (Config.tornByte k)
  | .resetErase block => Memory.fill t.array (slotAddress block 0) blockBytes (Config.tornByte k)

/-- R117, R129: the operation in flight is cut short. -/
def State.tear (s : State) : State :=
  match s.store.inFlight with
  | none => s
  | some op =>
    { s.useFree with store := { s.store with array := s.store.tornArray s.freeIndex op, inFlight := none } }

/-- R118, R131: a restart scan under way stops: some of its damaged blocks are erased, and the erase of the next may be in
flight. How far it had come is free (log 9). -/
def State.stopScan (s : State) : State :=
  if s.monitor.state = .restarting ∧ s.monitor.restart.isSome then
    let damaged := Memory.damaged s.store.array
    let done := Config.scanErased s.freeIndex % (damaged.length + 1)
    let s := s.useFree
    let flight := if Config.scanErased s.freeIndex % 2 = 1 then (damaged[done]?).map InFlight.eraseBlock else none
    { s.useFree with store := { s.store with
        array := (damaged.take done).foldl Memory.eraseBlock s.store.array, inFlight := flight } }
  else s

/-! ### The supply-fail warning (R128) -/

/-- R128: the monitor enters HOLDUP; the outage note is made when absent. -/
def Monitor.warned (m : Monitor) (now : Stamp) : Monitor :=
  { m with
    state := .holdup, outageNote := m.outageNote.or (some now), holdupComplete := false, restart := none,
    supplyGood := false, waitEnd := none }

/-- R128: the warning reaches every block: the reduction (R47) and the builder (R75), the swell (R53), the gap (R56), the
aggregator (R97), the ports (R160) and the store, which begins its holdup (R116). A burst expiry that was due before the
warning comes first (R74). In RESTARTING before step 3 an event opened here takes its references from the ring as it stood
before the reset (R59, R63; log 36), and a record finalized before the scan is queued, held back and numbered by the store state
and newest committed as they stood before it (R102, R103, R105; log 45). -/
def State.warn (s : State) : State :=
  let now := s.now
  let s := s.settleBurst now.elapsed
  let red := reductionWarning s.considered now s.estimator.ring s.reduction
  let built := if red.2 then s.builder.notice else (s.builder, none)
  let swell := swellWarning s.arrangement now s.swell
  let gap := s.gap.ending now.clock now.elapsed
  let s :=
    { s with
      reduction := some red.1, swell := none, gap := .closed, builder := built.1,
      aggregator := s.aggregator.freezeSupply now, monitor := s.monitor.warned now }
  ((s.stopPorts.deliver ((gap.map Record.gap).toList ++ built.2.toList ++ (swell.map Record.swell).toList)).holdupWrite).finish

/-- SUPPLY_GOOD_FALL (R128, R130): in RUN and RESTARTING the warning; in HOLDUP and RETAIN a wait that runs is cancelled
(log 24). A line that is low already does not fall. -/
def execSupplyGoodFall (s : State) : Host.Outcome State Fault Refusal :=
  .next (if ! s.monitor.supplyGood then s
    else
      match s.monitor.state with
      | .run => s.warn
      | .restarting => s.stopScan.warn
      | .holdup | .retain => { s with monitor := { s.monitor with supplyGood := false, waitEnd := none } })

/-! ### The end of the holdup (R129) -/

/-- R129: the monitor enters RETAIN; what the scan must set again is no longer known. The other volatile items, the ring and the
skip mark among them, keep their values until the restart sets them (log 27). -/
def State.enterRetain (s : State) (complete : Bool) : State :=
  { s with
    monitor := { s.monitor with state := .retain, holdupComplete := complete },
    store := { s.store with scanned := false } }.finish

/-- R116: the store has finished its holdup and has nothing left to do for it: no operation in flight, no head that fits, no
GAP record to queue. -/
def State.holdupOver (s : State) : Bool :=
  s.store.holdupFinished && ! (s.store.scanned && s.store.gapDue)

/-- R140: the writes of the area complete during the holdup (log 16). -/
def Bank.writesDone (b : Bank) : Bank := { b with area := b.areaAhead, areaWrites := [] }

/-- STORE_HOLDUP_DONE (R129). -/
def execStoreHoldupDone (s : State) : Host.Outcome State Fault Refusal :=
  .next (if s.monitor.state = .holdup ∧ s.holdupOver = true then
      { s with bank := s.bank.writesDone }.enterRetain true
    else s)

/-- R140: the writes of the area not yet complete are lost. -/
def State.dropAreaWrites (s : State) : State := { s with bank := { s.bank with areaWrites := [] } }

/-- SUPPLY_COLLAPSE (R129): the operation in flight is torn and writes of the area are cut short. -/
def execSupplyCollapse (s : State) : Host.Outcome State Fault Refusal :=
  .next (if s.monitor.state = .holdup then (s.tear.dropAreaWrites).enterRetain false else s)

/-! ### RETAIN (R130, R132) -/

/-- The length of the steadiness wait in ms (R130). -/
def steadinessWait : Nat := 50

/-- SUPPLY_GOOD_RISE (R130): in HOLDUP and RETAIN a steadiness wait starts. A line that is high already does not rise. -/
def execSupplyGoodRise (s : State) : Host.Outcome State Fault Refusal :=
  .next (if s.monitor.supplyGood then s
    else
      match s.monitor.state with
      | .holdup | .retain =>
        { s with monitor := { s.monitor with
            supplyGood := true, waitEnd := some (s.monitor.elapsed + steadinessWait) } }
      | .run | .restarting => { s with monitor := { s.monitor with supplyGood := true } })

/-- R130: in RETAIN with supply-good high, the steadiness wait is over; with the counter stopped no count can say so, and a wait
counts as over from its start (log 25). -/
def State.waitOver (s : State) : Bool :=
  s.monitor.state == .retain && s.monitor.supplyGood &&
    (match s.monitor.waitEnd with
    | none => false
    | some t => s.monitor.counterStopped || decide (t ≤ s.monitor.elapsed))

/-- RETENTION_LOSS (R132): in RETAIN the retention-valid flag clears and the elapsed counter stops. -/
def execRetentionLoss (s : State) : Host.Outcome State Fault Refusal :=
  .next (if s.monitor.state = .retain then
      { s with monitor := { s.monitor with retentionValid := false, counterStopped := true } }
    else s)

/-- POWER_UP (R130): the part comes up in RETAIN with the retention-valid flag clear, whatever was under way (log 26). -/
def execPowerUp (s : State) : Host.Outcome State Fault Refusal :=
  .next (((s.stopScan.tear).dropAreaWrites.stopPorts.enterRetain false).onMonitor fun m =>
      { m with retentionValid := false, restart := none, waitEnd := none, supplyGood := false, counterStopped := false })

/-! ### The start of a restart (R133 to R135 step 1) -/

/-- The nominal cycle length of a strap level in sets: 192 for a low strap, 160 for a high one (R16). -/
def nominalOf (strap60 : Bool) : Nat := if strap60 then 160 else 192

/-- R134: the state that a COLD restart starts afresh at once. -/
def State.coldStart (s : State) : State :=
  let s := s.onPorts fun t => { t with notify := 1 }
  { s with
    reduction := none, swell := none, gap := .cold, builder := .cold, aggregator := .cold,
    store := { s.store with queue := [], episode := none },
    monitor := { s.monitor with
      elapsed := 0, counterStopped := false, offset := 0, quality := .unset, smallStepUsed := false, outageNote := none,
      holdupComplete := false } }

/-- R135 step 1: the strap is sampled: the tracker takes its nominal cycle length, a change is noted, and the area takes the
new value. The note is that of this restart's own step 1: it replaces one that an abandoned restart made (log 39). -/
def State.sampleStrap (s : State) (strap60 : Bool) : State :=
  { s with
    tracker := { s.tracker with nominal := nominalOf strap60 },
    monitor := { s.monitor with
      strap60 := strap60, strapChanged := s.bank.areaAhead.strap == some (! strap60) } }.writeArea
    { strap := some strap60 }

/-- R133: the kind of a restart: COLD with the retention-valid flag clear, and otherwise as its cause gives it. -/
def State.kindFor (s : State) (kind : RestartKind) : RestartKind := if s.monitor.retentionValid then kind else .cold

/-- R133 to R135: a restart of a kind begins, and its scan starts. -/
def State.beginRestart (s : State) (kind : RestartKind) (strap60 : Bool) : State :=
  let s := if kind = .cold then s.coldStart else s
  ({ s with monitor := { s.monitor with state := .restarting, restart := some kind, waitEnd := none } }.sampleStrap
    strap60).finish

/-- STEADINESS_WAIT_DONE (R130): with the reset line high the restart begins; held low, it waits for the line. -/
def execSteadinessWaitDone (strap60 : Bool) (s : State) : Host.Outcome State Fault Refusal :=
  .next (if s.waitOver && s.monitor.resetHigh then s.beginRestart (s.kindFor .warm) strap60 else s)

/-! ### The reset line (R131) -/

/-- R131, R117: the monitor is held by the line: the operation in flight is cut short, the interval freezes, the ports stop. -/
def State.holdByReset (s : State) : State :=
  let s := s.stopScan.tear.dropAreaWrites.stopPorts
  { s with
    aggregator := s.aggregator.freezeReset s.now,
    monitor := { s.monitor with state := .restarting, restart := none, resetHigh := false },
    store := { s.store with scanned := false } }.finish

/-- RESET_ASSERT (R131): in HOLDUP and RETAIN only the line's level changes. A line that is low already is not asserted. -/
def execResetAssert (s : State) : Host.Outcome State Fault Refusal :=
  .next (if ! s.monitor.resetHigh then s
    else
      match s.monitor.state with
      | .run | .restarting => s.holdByReset
      | .holdup | .retain => { s with monitor := { s.monitor with resetHigh := false } })

/-- R130, R131, R133: the line rises: a part held by it restarts, LINE unless retention is lost; in RETAIN with the wait over
it restarts as from RETAIN (log 22). With the counter stopped a wait that has only just started counts as over, and the restart
begins at once (log 25). -/
def State.releaseReset (s : State) (strap60 : Bool) : State :=
  if s.monitor.state = .restarting ∧ s.monitor.restart = none then s.beginRestart (s.kindFor .line) strap60
  else if s.waitOver then s.beginRestart (s.kindFor .warm) strap60
  else s

/-- RESET_RELEASE (R131). A line that is high already is not released. -/
def execResetRelease (strap60 : Bool) (s : State) : Host.Outcome State Fault Refusal :=
  .next (if s.monitor.resetHigh then s
    else { s with monitor := { s.monitor with resetHigh := true } }.releaseReset strap60)

end Sys2Proof.Machine
end

