-- ==== Sys2Proof/Machine/Restart.lean ====
section
/-! DEFINITION. The rest of a restart (R135 steps 2 to 6): RESTART_SCAN_END. -/

namespace Sys2Proof.Machine

open Sys2Proof

/-- R134: at a COLD restart the matrix is rebuilt from the store (R84) and the marks are those of the newest stored INTERVAL
record, or 0. During a resumed reset the rebuilt matrix is all zero (R120). -/
def State.recoverCold (s : State) (r : ScanResult) : State :=
  let marks := r.marks.getD (0, 0)
  { s with
    matrix := if s.store.state = .resetting then matrixClear else rebuiltMatrix r.records,
    operator := { s.operator with mark := marks.1 }, consumer := { s.consumer with mark := marks.2 } }

/-- R135 step 2: the scan's result, the queue, the marks and the matrix, the epoch and the store state, the GAP record of an
open episode, and the settings (log 29). -/
def State.finishScan (s : State) (kind : RestartKind) (r : ScanResult) : State :=
  let s := { s with store := (s.store.scannedAs r s.bank.areaAhead).matchQueue }
  let s := s.settleEpoch
  let s := if kind = .cold then s.recoverCold r else s
  let s := { s with store := s.store.queueGap }
  s.recoverSettings r.records

/-- A port as it comes to step 6 (R154): no request, no reply, marks and error counters clear, its line released. -/
def PortState.cleared (t : PortState) : PortState := { t.stopped with checkFailures := 0, lengthFailures := 0 }

/-- R135 steps 3 and 4: slots and ring; tracker, receiver and engine; the error counters. -/
def State.clearForStart (s : State) : State :=
  let s := s.onPorts PortState.cleared
  { s with
    bank := s.bank.emptied, estimator := .restart, tracker := .restart s.tracker.nominal, link := .restart,
    engine := .restart }

/-- R137: the RESTART record. Torn record discarded and frequency-select changed report what this restart's own steps found, and
nothing of an abandoned restart before it (log 39). -/
def State.restartRecord (s : State) (kind : RestartKind) (r : ScanResult) : RestartRecord :=
  { kind := kind, stamp := s.now, warning := s.monitor.outageNote, hertz60 := s.monitor.strap60,
    retentionLost := kind == RestartKind.cold, matrixRebuilt := kind == RestartKind.cold,
    marksRecovered := kind == RestartKind.cold && r.marks.isSome,
    tornDiscarded := r.tornFound, strapChanged := s.monitor.strapChanged,
    holdupIncomplete := kind == RestartKind.warm && ! s.monitor.holdupComplete }

/-- R135 step 5, R138: the RESTART record is handed over, and the last restart kind is set. -/
def State.recordRestart (s : State) (kind : RestartKind) (r : ScanResult) : State :=
  { s.handOver (.restart (s.restartRecord kind r)) with monitor := { s.monitor with lastKind := kind } }

/-- R48, R49: the contexts as measuring starts. -/
def State.resumeContexts (s : State) (kind : RestartKind) : State :=
  { s with
    reduction := s.reduction.map fun x => x.resumed kind, swell := s.swell.map fun x => x.resumed kind,
    gap := s.gap.resumed kind }

/-- R75: the members of an overdue burst, finalized as measuring starts. -/
def State.overdueBurst (s : State) : Builder × Option Record :=
  if s.builder.due s.monitor.elapsed then s.builder.expire else (s.builder, none)

/-- R135 step 6: measuring starts: the monitor and the ports, the contexts (R48, R49), the interval (R98) and an overdue burst
(R75). -/
def State.startMeasuring (s : State) (kind : RestartKind) : State :=
  let s :=
    { s with monitor := { s.monitor with
        state := .run, restart := none, outageNote := none,
        retentionValid := s.monitor.retentionValid || kind == RestartKind.cold } }
  let s := s.resumeContexts kind
  let closed := s.frozenRecord
  let burst := s.overdueBurst
  let s := { s.intervalRestart with builder := burst.1 }
  (s.deliver (closed ++ burst.2.toList)).finish

/-- R135: the scan of a restart of a kind ends, and the restart goes on to its end. -/
def State.endScan (s : State) (kind : RestartKind) : State :=
  let r := Memory.scan s.store.array
  let s := (s.finishScan kind r).clearForStart
  (s.recordRestart kind r).startMeasuring kind

/-- RESTART_SCAN_END (R135): it acts while a restart is under way. -/
def execRestartScanEnd (s : State) : Host.Outcome State Fault Refusal :=
  .next (if s.monitor.state = .restarting then
      match s.monitor.restart with
      | none => s
      | some kind => s.endScan kind
    else s)

end Sys2Proof.Machine
end

