-- ==== Sys2Proof/Machine/Timers.lean ====
section
/-! DEFINITION. The commands of the part's own timers: BURST_EXPIRY, INTERVAL_BOUNDARY, PROPOSAL_EXPIRY, RELEASE_CHECK. Each
acts when what it waits for has come, and changes nothing before (log 1). -/

namespace Sys2Proof.Machine

open Sys2Proof

/-- BURST_EXPIRY (R74). -/
def execBurstExpiry (s : State) : Host.Outcome State Fault Refusal :=
  .next (if s.running && s.builder.due s.monitor.elapsed then s.expireBurst else s)

/-- INTERVAL_BOUNDARY (R89). -/
def execIntervalBoundary (s : State) : Host.Outcome State Fault Refusal :=
  .next (if s.running && s.boundaryReached then s.takeBoundary else s)

/-- R145: the slot of a port holds a proposal whose expiry time has been reached. -/
def State.proposalDue (s : State) (p : Port) : Bool :=
  match s.bank.slot p with
  | none => false
  | some proposal => decide (proposal.expiry ≤ s.monitor.elapsed)

/-- The slot of a port emptied, with both lines judged afresh (R144, R145, R169). -/
def State.emptySlot (s : State) (p : Port) : State := { s with bank := s.bank.setSlot p none }.finish

/-- PROPOSAL_EXPIRY (R145). -/
def execProposalExpiry (p : Port) (s : State) : Host.Outcome State Fault Refusal :=
  .next (if s.proposalDue p then s.emptySlot p else s)

/-- R110: the store is HELD in RUN and the release check time, if it has been reached. -/
def State.releaseCheckDue (s : State) : Option Nat :=
  if s.running ∧ s.store.state = .held then
    match s.store.releaseCheck with
    | none => none
    | some t => if t ≤ s.monitor.elapsed then some t else none
  else none

/-- R110: the periodic check: the release check time advances and the blocked block is judged again. -/
def State.checkRelease (s : State) (t : Nat) : State :=
  ({ s with store := { s.store with releaseCheck := some (t + releasePeriod) } }.judgeHeld).finish

/-- RELEASE_CHECK (R110). -/
def execReleaseCheck (s : State) : Host.Outcome State Fault Refusal :=
  .next (match s.releaseCheckDue with
    | none => s
    | some t => s.checkRelease t)

end Sys2Proof.Machine
end

