-- ==== Sys2Proof/Machine/Dispatch.lean ====
section
/-! DEFINITION. The meaning of every command: one arm for each constructor. -/

namespace Sys2Proof.Machine

open Sys2Proof

/-- The effect of a command on everything but the queue of waiting commands. -/
def exec (i : Instr) (s : State) : Host.Outcome State Fault Refusal :=
  match i with
  | .goodTransfer bytes => Sys2Proof.Machine.execGoodTransfer bytes s
  | .failedTransfer bytes => Sys2Proof.Machine.execFailedTransfer bytes s
  | .linkTick => Sys2Proof.Machine.execLinkTick s
  | .silentEntry => Sys2Proof.Machine.execSilentEntry s
  | .referenceLoss => Sys2Proof.Machine.execReferenceLoss s
  | .freeRunBoundary => Sys2Proof.Machine.execFreeRunBoundary s
  | .burstExpiry => Sys2Proof.Machine.execBurstExpiry s
  | .intervalBoundary => Sys2Proof.Machine.execIntervalBoundary s
  | .proposalExpiry port => Sys2Proof.Machine.execProposalExpiry port s
  | .releaseCheck => Sys2Proof.Machine.execReleaseCheck s
  | .heldBackGapQueue => Sys2Proof.Machine.execHeldBackGapQueue s
  | .arbiterGrant => Sys2Proof.Machine.execArbiterGrant s
  | .recordWriteComplete => Sys2Proof.Machine.execRecordWriteComplete s
  | .padFillComplete => Sys2Proof.Machine.execPadFillComplete s
  | .eraseComplete => Sys2Proof.Machine.execEraseComplete s
  | .resetEraseComplete => Sys2Proof.Machine.execResetEraseComplete s
  | .epochWriteComplete => Sys2Proof.Machine.execEpochWriteComplete s
  | .areaWriteComplete => Sys2Proof.Machine.execAreaWriteComplete s
  | .flushComplete port => Sys2Proof.Machine.execFlushComplete port s
  | .elapsedTick => Sys2Proof.Machine.execElapsedTick s
  | .supplyGoodFall => Sys2Proof.Machine.execSupplyGoodFall s
  | .storeHoldupDone => Sys2Proof.Machine.execStoreHoldupDone s
  | .supplyCollapse => Sys2Proof.Machine.execSupplyCollapse s
  | .supplyGoodRise => Sys2Proof.Machine.execSupplyGoodRise s
  | .steadinessWaitDone strap60 => Sys2Proof.Machine.execSteadinessWaitDone strap60 s
  | .powerUp => Sys2Proof.Machine.execPowerUp s
  | .retentionLoss => Sys2Proof.Machine.execRetentionLoss s
  | .resetAssert => Sys2Proof.Machine.execResetAssert s
  | .resetRelease strap60 => Sys2Proof.Machine.execResetRelease strap60 s
  | .readPeriod port clocked => Sys2Proof.Machine.execReadPeriod port clocked s
  | .invalidRequestFrame port bytes => Sys2Proof.Machine.execInvalidRequestFrame port bytes s
  | .status port tag => Sys2Proof.Machine.execStatus port tag s
  | .readRecords port tag first count => Sys2Proof.Machine.execReadRecords port tag first count s
  | .collect port tag number => Sys2Proof.Machine.execCollect port tag number s
  | .readLive port tag => Sys2Proof.Machine.execReadLive port tag s
  | .readMatrix port tag => Sys2Proof.Machine.execReadMatrix port tag s
  | .readSettings port tag first last => Sys2Proof.Machine.execReadSettings port tag first last s
  | .lodge port tag pairs => Sys2Proof.Machine.execLodge port tag pairs s
  | .withdraw port tag => Sys2Proof.Machine.execWithdraw port tag s
  | .timeSet port tag value => Sys2Proof.Machine.execTimeSet port tag value s
  | .timeStep port tag value => Sys2Proof.Machine.execTimeStep port tag value s
  | .timeBadForm port tag form value => Sys2Proof.Machine.execTimeBadForm port tag form value s
  | .setNotify port tag level => Sys2Proof.Machine.execSetNotify port tag level s
  | .flush port tag => Sys2Proof.Machine.execFlush port tag s
  | .restartScanEnd => Sys2Proof.Machine.execRestartScanEnd s
  | .selectPeriodStart port => Sys2Proof.Machine.execSelectPeriodStart port s

end Sys2Proof.Machine
end

