-- ==== Sys2Proof/Safety.lean ====
section
/-! DEFINITION. What counts as a sound state of the part, and the words in which the statements are made: who sends a command,
what a reply looks like on its port, and the bytes of a sample set. -/

namespace Sys2Proof.Machine

open Sys2Proof

/-! ### Senders -/

/-- The port whose master sends a command, if a port master does. -/
def senderOf : Instr → Option Port
  | .readPeriod p _ | .invalidRequestFrame p _ | .status p _ | .readRecords p _ _ _ | .collect p _ _ | .readLive p _
  | .readMatrix p _ | .readSettings p _ _ _ | .lodge p _ _ | .withdraw p _ | .timeSet p _ _ | .timeStep p _ _
  | .timeBadForm p _ _ _ | .setNotify p _ _ | .flush p _ | .selectPeriodStart p => some p
  | .goodTransfer _ | .failedTransfer _ | .linkTick | .silentEntry | .referenceLoss | .freeRunBoundary | .burstExpiry
  | .intervalBoundary | .proposalExpiry _ | .releaseCheck | .heldBackGapQueue | .arbiterGrant | .recordWriteComplete
  | .padFillComplete | .eraseComplete | .resetEraseComplete | .epochWriteComplete | .areaWriteComplete
  | .flushComplete _ | .elapsedTick | .supplyGoodFall | .storeHoldupDone | .supplyCollapse | .supplyGoodRise
  | .steadinessWaitDone _ | .powerUp | .retentionLoss | .resetAssert | .resetRelease _ | .restartScanEnd => none

/-- The commands of the sample link and the tracker. -/
def ofTheLink : Instr → Bool
  | .goodTransfer _ | .failedTransfer _ | .linkTick | .silentEntry | .referenceLoss | .freeRunBoundary => true
  | _ => false

/-- The commands in which the array's content may change: a write, a fill or an erase completes or is cut short, or a restart
scan erases damaged blocks (R106, R109, R114, R115, R117, R118, R129). -/
def touchesArray : Instr → Bool
  | .recordWriteComplete | .padFillComplete | .eraseComplete | .resetEraseComplete | .epochWriteComplete
  | .supplyGoodFall | .supplyCollapse | .powerUp | .resetAssert | .restartScanEnd => true
  | _ => false

/-- The commands at which a restart may begin (R130, R131). -/
def startsRestart : Instr → Bool
  | .steadinessWaitDone _ | .resetRelease _ => true
  | _ => false

/-- The TIME requests (R167). -/
def movesTime : Instr → Bool
  | .timeSet _ _ _ | .timeStep _ _ _ => true
  | _ => false

/-- The commands of the supply, the reset line, retention and the restart (R128 to R135). -/
def ofTheSupply : Instr → Bool
  | .supplyGoodFall | .storeHoldupDone | .supplyCollapse | .supplyGoodRise | .steadinessWaitDone _ | .powerUp
  | .retentionLoss | .resetAssert | .resetRelease _ | .restartScanEnd => true
  | _ => false

/-! ### Sound states -/

/-- The elapsed counter and clock time lie in their ranges (R123). -/
def State.clockSound (s : State) : Prop :=
  s.monitor.elapsed ≤ max48 ∧ 0 ≤ (s.monitor.elapsed : Int) + s.monitor.offset
    ∧ (s.monitor.elapsed : Int) + s.monitor.offset ≤ max48

/-- The buffers hold no more than their rules give them: 256 sets and marks (R2, R17), 20 ring entries (R59), 8 members, and
no more than 7 while a reduction is open (R71, R72). -/
def State.buffersSound (s : State) : Prop :=
  s.engine.history.length ≤ 256 ∧ s.link.marks.length ≤ 256 ∧ s.estimator.ring.length ≤ 20
    ∧ s.builder.members.length ≤ 8 ∧ (s.reduction.isSome = true → s.builder.members.length ≤ 7)

/-- The matrix has 31 cells, each of 32 bits (R80). -/
def State.matrixSound (s : State) : Prop := s.matrix.length = 31 ∧ ∀ n ∈ s.matrix, n ≤ max32

/-- A port's attention line stands as the table of R169 says, and is released outside RUN (R160). -/
def State.lineSound (s : State) (p : Port) : Prop :=
  (s.port p).attention = true ↔
    s.monitor.state = .run ∧
      ((s.port p).notify + (s.port p).mark ≤ s.store.newest
        ∨ ((s.bank.slot p.other).isSome = true ∧ s.bank.matched = false)
        ∨ s.store.state = .held)

/-- A port's reply and request stand together (R154, R157, R174): a READY reply ends in the check byte of its own port, a
reply that is not READY has no bytes, and a request is in process exactly while the reply is PREPARING. -/
def PortState.replySound (p : Port) (t : PortState) : Prop :=
  (t.replyState = .ready → ∃ earlier, t.reply = earlier ++ [frameCheck p earlier])
    ∧ (t.replyState ≠ .ready → t.reply = []) ∧ (t.replyState = .preparing ↔ t.inProcess.isSome = true)

/-- The settings a Bank may hold: every standing setting in the range of R139, the thresholds consistent (R143 check 4). -/
def Settings.sound (t : Settings) : Prop :=
  (∀ i, 1 ≤ i → i ≤ 12 → standingInRange i (t.value i : Nat) = true)
    ∧ t.ti + t.h < t.td ∧ t.td + t.h < 10000 ∧ 10000 + t.h < t.ts

/-! ### Records -/

/-- The fields of a record fit their layout (R77, R142, R172, R173): 2 to 8 members in a BURST, 1 to 8 changes in a SETTINGS
record, and the fields by which a record is counted in their widths. -/
def Record.fits : Record → Prop
  | .reduction r => r.residual < 2 ^ 16 ∧ r.duration ≤ max32
  | .swell r => r.maximum < 2 ^ 16 ∧ r.duration ≤ max32
  | .burst members => 2 ≤ members.length ∧ members.length ≤ 8 ∧ ∀ m ∈ members, m.residual < 2 ^ 15
  | .settings r => 1 ≤ r.changes.length ∧ r.changes.length ≤ 8
  | .interval _ | .gap _ | .timestep _ | .restart _ | .epoch _ => True

/-! ### Replies -/

/-- `t` is `s` but for one port, whose request period with a frame has ended with a complete reply: the bytes sent in the
period, the request buffer, and the reply with both marks copied into its flags and cleared. OVERRUN is carried when it was
set or the reply state was READY, ABANDONED when it was set or the state was PREPARING (R158). -/
def Answered (p : Port) (frame : List Byte) (code tag : Byte) (status : Status) (own : Nat) (payload : List Byte)
    (s t : State) : Prop :=
  t = s.setPort p
    { s.port p with
      period := none, clockedOut := s.bytesOut p frame.length, requestBuffer := frame.take 64, inProcess := none,
      reply := replyFrame p code tag status
        (replyFlags ((s.port p).overrun || (s.port p).replyState == .ready)
          ((s.port p).abandoned || (s.port p).replyState == .preparing) own) payload,
      replyState := .ready, overrun := false, abandoned := false }

/-- `t` is `s` but for one port, which keeps a request in process: the reply state is PREPARING, and the marks wait for the
reply (R158, R162, R168). -/
def KeptInProcess (p : Port) (frame : List Byte) (r : InProcess) (s t : State) : Prop :=
  t = s.setPort p
    { s.port p with
      period := none, clockedOut := s.bytesOut p frame.length, requestBuffer := frame.take 64, inProcess := some r,
      reply := if (s.port p).replyState = .ready then [] else (s.port p).reply,
      replyState := .preparing, overrun := (s.port p).overrun || (s.port p).replyState == .ready,
      abandoned := (s.port p).abandoned || (s.port p).replyState == .preparing }

/-- The part takes a request on a port now: it is in RUN, and the select period is not ignored whole (R160). -/
def State.takesRequests (s : State) (p : Port) : Prop := s.monitor.state = .run ∧ (s.port p).period ≠ some .ignored

/-! ### Sample sets -/

/-- The 14 bytes of a set before its check byte, by the positions of R171. -/
def sampleFields (number : Byte) (x : SampleSet) : List Byte :=
  [number] ++ leBytes 2 x.ua.toNat ++ leBytes 2 x.ub.toNat ++ leBytes 2 x.uc.toNat ++ leBytes 2 x.ia.toNat
    ++ leBytes 2 x.ib.toNat ++ leBytes 2 x.ic.toNat ++ [x.status]

/-- The transfer of a set: its fields and its check byte (R1, R171). -/
def sampleBytes (number : Byte) (x : SampleSet) : List Byte :=
  sampleFields number x ++ [~~~ byteSum (sampleFields number x)]

end Sys2Proof.Machine
end

