-- ==== Sys2Proof/WellFormed.lean ====
section
/-! DEFINITION. When a command's operands are those its row stands for. A command that is not well formed still has a meaning:
the part judges the bytes themselves (log 20, log 21). -/

namespace Sys2Proof

/-- The operand checks of each row: a good transfer is good by R1 and a failed one is not; a read period has at least the two
zero bytes that make it one (R155); an invalid frame opens a request period and fails a check of R157; a LODGE fits a frame
of 64 bytes (R174); a bad form is neither SET nor STEP (R167). -/
def Instr.wf : Instr → Bool
  | .goodTransfer bytes => Machine.transferGood bytes
  | .failedTransfer bytes => ! Machine.transferGood bytes
  | .readPeriod _ clocked => decide (2 ≤ clocked)
  | .invalidRequestFrame p bytes =>
    decide (2 ≤ bytes.length) && decide (Machine.fieldAt bytes 0 2 ≠ 0) && (Machine.frameFailure p bytes).isSome
  | .lodge _ _ pairs => decide (pairs.length ≤ 11)
  | .timeBadForm _ _ form _ => decide (2 ≤ form.toNat)
  | .linkTick | .silentEntry | .referenceLoss | .freeRunBoundary | .burstExpiry | .intervalBoundary
  | .proposalExpiry _ | .releaseCheck | .heldBackGapQueue | .arbiterGrant | .recordWriteComplete
  | .padFillComplete | .eraseComplete | .resetEraseComplete | .epochWriteComplete | .areaWriteComplete
  | .flushComplete _ | .elapsedTick | .supplyGoodFall | .storeHoldupDone | .supplyCollapse | .supplyGoodRise
  | .steadinessWaitDone _ | .powerUp | .retentionLoss | .resetAssert | .resetRelease _
  | .status _ _ | .readRecords _ _ _ _ | .collect _ _ _ | .readLive _ _ | .readMatrix _ _ | .readSettings _ _ _ _
  | .withdraw _ _ | .timeSet _ _ _ | .timeStep _ _ _ | .setNotify _ _ _ | .flush _ _ | .restartScanEnd
  | .selectPeriodStart _ => true

end Sys2Proof
end

