-- ==== Sys2Proof/Certificates/Slice0/Obligations.lean ====
section
/-! DEFINITION. The statements for the provers, one definition each. Each statement's docstring says what it claims and the
rules it rests on; OBLIGATIONS.json lists them. -/

open Sys2Proof Sys2Proof.Machine

/-- A sample set's transfer is good and reads back field by field (R1, R171). For every set number and every sample
set, the 15 bytes laid out by the positions of R171 with their check byte are a good transfer, its first byte is the
set number, and the set read from it is that set; the overrange marks of the voltage channels are bits 0 to 2 of byte
13, and those of the current channels bits 3 to 5. -/
def Obligations.SampleSetRoundTrip : Prop :=
  ∀ (number : Byte) (x : SampleSet),
    transferGood (sampleBytes number x) = true ∧ byteAt (sampleBytes number x) 0 = number
      ∧ sampleSetOf (sampleBytes number x) = x
      ∧ x.overrange .a = (byteAt (sampleBytes number x) 13).getLsbD 0
      ∧ x.overrange .b = (byteAt (sampleBytes number x) 13).getLsbD 1
      ∧ x.overrange .c = (byteAt (sampleBytes number x) 13).getLsbD 2
      ∧ x.currentOverrange .a = (byteAt (sampleBytes number x) 13).getLsbD 3
      ∧ x.currentOverrange .b = (byteAt (sampleBytes number x) 13).getLsbD 4
      ∧ x.currentOverrange .c = (byteAt (sampleBytes number x) 13).getLsbD 5

/-- A good transfer re-bases, repeats, or is preceded by the lost sets (R3, R5, 01_sample_link_and_cycle_tracking.md
1.3). In RUN, with the link SILENT or with no silent entry due, GOOD_TRANSFER with a good transfer answers next: the
link is RUNNING with silence count 0; while SILENT or with the re-base mark set the set is taken at once; otherwise a
step of 0 discards it and a step of k hands on k - 1 substitutions and then takes the set, which becomes the last good
set with its number and clears the re-base mark. That a silent entry that is due comes first, and that the bytes are
judged whatever the command's name, are the model's choices (log 3, log 21). -/
def Obligations.GoodTransferTaken : Prop :=
  ∀ (bytes : List Byte) (s : State), transferGood bytes = true → s.monitor.state = .run →
    (s.link.state = .silent ∨ s.link.silence < 3) →
    let number := byteAt bytes 0
    let k := (number - s.link.lastNumber).toNat
    let heard : State := { s with link := { s.link with state := .running, silence := 0 } }
    let take : State → State := fun t =>
      { t with link := { t.link with lastGood := sampleSetOf bytes, lastNumber := number, rebase := false } }.handOn
        (sampleSetOf bytes) false
    exec (.goodTransfer bytes) s = .next
      (if s.link.state = .silent ∨ s.link.rebase = true then take heard
       else if k = 0 then heard
       else take (State.substitutes (k - 1) heard))

/-- A set handed on enters the history, the marks and the tracker's counts, and a sign change is a crossing (R6, R8,
R9, R18). When no boundary is due, handing on a set puts it and its two marks first in the history and the marks (256
at most), the clipped mark telling an overrange voltage of a considered phase; it adds one to the tracker's counts,
makes the last crossing direction the set's sign (positive-going at 0 or above) and keeps the times and time quality
of the set. With the last direction unknown or of the same sign nothing else changes, the array among it. With the
other sign the set is a crossing: it is counted, as CountedCrossingEndsWindow says, exactly when no counted crossing
of its direction is held or 128 sets or more have been handed on since, this set among them, and otherwise nothing
else changes. That the set which makes a boundary due changes nothing more, the boundary being a command of its own,
and the times kept for it, are the model's choice (log 3). -/
def Obligations.SetHandedOnIsRecorded : Prop :=
  ∀ (s : State) (x : SampleSet) (substituted : Bool),
    s.tracker.lossDue = false → s.tracker.freeRunDue = false →
    let sign : Direction := if 0 ≤ x.voltage s.tracker.ref then .positive else .negative
    let clipped : Bool := (s.considered.has .a && x.overrange .a) || (s.considered.has .b && x.overrange .b)
      || (s.considered.has .c && x.overrange .c)
    let t : State :=
      { s with
        link := { s.link with marks := ({ substituted := substituted, clipped := clipped } :: s.link.marks).take 256 },
        engine := { s.engine with history := (x :: s.engine.history).take 256 },
        tracker := { s.tracker with
          sinceBoundary := s.tracker.sinceBoundary + 1, sincePos := s.tracker.sincePos.map (· + 1),
          sinceNeg := s.tracker.sinceNeg.map (· + 1), lastDir := some sign,
          setElapsed := s.monitor.elapsed, setClock := s.clock, setQuality := s.monitor.quality } }
    let held : Option Nat := match sign with
      | .positive => s.tracker.sincePos
      | .negative => s.tracker.sinceNeg
    (s.tracker.lastDir = none ∨ s.tracker.lastDir = some sign → s.handOn x substituted = t)
    ∧ (∀ d, s.tracker.lastDir = some d → d ≠ sign →
      ((∀ k, held = some k → 128 ≤ k + 1) → s.handOn x substituted = t.countedCrossing sign)
      ∧ ((∃ k, held = some k ∧ k + 1 < 128) → s.handOn x substituted = t))

/-- Failed transfers, link ticks and the silent entry hand on copies of the last good set (R4, R5, R6). In RUN:
FAILED_TRANSFER on a RUNNING link sets the silence count to 0 and hands on one copy of the last good set with L one
higher, and on a SILENT link changes nothing; LINK_TICK on a RUNNING link below 3 only adds one to the silence count,
and on a SILENT link hands on one such copy; SILENT_ENTRY at a count of 3 makes the link SILENT, raises L by 3, and
puts three copies of the last good set, marked substituted, at the head of the history. That LINK_TICK at a count of 2
only counts, the entry into SILENT being a command of its own, is the model's choice (log 3). -/
def Obligations.SubstitutionsStandForMissingSets : Prop :=
  ∀ (s : State), s.monitor.state = .run →
    let copy : State → State := fun t =>
      { t with link := { t.link with lastNumber := t.link.lastNumber + 1 } }.handOn t.link.lastGood true
    (∀ bytes, transferGood bytes = false → s.link.state = .running → s.link.silence < 3 →
      exec (.failedTransfer bytes) s = .next (copy { s with link := { s.link with silence := 0 } }))
    ∧ (∀ bytes, transferGood bytes = false → s.link.state = .silent → exec (.failedTransfer bytes) s = .next s)
    ∧ (s.link.state = .running → s.link.silence < 3 →
      exec .linkTick s = .next { s with link := { s.link with silence := s.link.silence + 1 } })
    ∧ (s.link.state = .silent → exec .linkTick s = .next (copy s))
    ∧ (s.link.state = .running → 3 ≤ s.link.silence → ∃ t, exec .silentEntry s = .next t
      ∧ t.link.state = .silent ∧ t.link.lastNumber = s.link.lastNumber + 3 ∧ t.link.lastGood = s.link.lastGood
      ∧ t.link.silence = s.link.silence ∧ t.link.rebase = s.link.rebase
      ∧ t.engine.history.take 3 = List.replicate 3 s.link.lastGood
      ∧ (t.link.marks.take 3).map SetMarks.substituted = [true, true, true])

/-- Loss of the reference and free-run boundaries issue a window of the nominal cycle (R10, R11, R14, R19). In RUN,
REFERENCE_LOSS with the tracker TRACKING and 256 sets or more since the last boundary answers next with the value set
of the nominal cycle length, over that many newest sets, handed over in FREE_RUN on the same reference, and the
tracker no longer TRACKING; FREE_RUN_BOUNDARY in FREE_RUN or SEARCH, with the nominal cycle (first boundary) or half
cycle reached, answers next with the value set of the nominal cycle length in the state in force. What a value set of
a length holds is said by ValueSetFollowsItsFormulas. In both the count since the boundary is 0, the cycle mark is
clear after a loss, the first-boundary mark is clear, and the receiver, the history, the settings, the monitor, the
ports and the array are unchanged. That each is a command of its own, and may come later than the set that makes it
due, is the model's choice (log 3). -/
def Obligations.BoundariesWithoutCrossings : Prop :=
  ∀ (s : State), s.monitor.state = .run →
    let kept : State → Prop := fun t =>
      t.link = s.link ∧ t.engine.history = s.engine.history ∧ t.bank = s.bank ∧ t.monitor = s.monitor
        ∧ t.operator = s.operator ∧ t.consumer = s.consumer ∧ t.store.array = s.store.array
        ∧ t.store.newest = s.store.newest ∧ t.pending = s.pending
    (s.tracker.state = .tracking → 256 ≤ s.tracker.sinceBoundary → ∃ v t, exec .referenceLoss s = .next t
      ∧ t.engine.latest = some v ∧ v = ({ s with tracker := { s.tracker with state := .freeRun } }).valueSet s.tracker.nominal
      ∧ v.n = s.tracker.nominal ∧ v.tracker = .freeRun ∧ v.ref = s.tracker.ref
      ∧ t.tracker.state ≠ .tracking ∧ t.tracker.cycleMark = false ∧ t.tracker.sinceBoundary = 0
      ∧ t.tracker.firstBoundary = false ∧ kept t)
    ∧ (s.tracker.state ≠ .tracking →
      (if s.tracker.firstBoundary then s.tracker.nominal else s.tracker.nominal / 2) ≤ s.tracker.sinceBoundary →
      ∃ v t, exec .freeRunBoundary s = .next t
      ∧ t.engine.latest = some v ∧ v = s.valueSet s.tracker.nominal ∧ v.n = s.tracker.nominal ∧ v.tracker = s.tracker.state ∧ v.ref = s.tracker.ref
      ∧ t.tracker.state ≠ .tracking ∧ t.tracker.sinceBoundary = 0 ∧ t.tracker.firstBoundary = false ∧ kept t)

/-- A counted crossing places a boundary with the span of its direction (R9, R10, R12, R15, R91). When the tracker
counts a crossing of a direction (none of it held, or 128 sets or more since), the crossing memory of that direction
restarts at 0 as the crossing is counted; in TRACKING the value set is issued, over the newest sets, whose length is
the span since the previous counted crossing of the direction clamped to 128..256, or the nominal cycle when none is
held, with state TRACKING. In SEARCH or FREE_RUN a positive-going one on a reference at 2,000 dh or more returns to
TRACKING and issues such a set; any other issues none and changes only the crossing memory. A positive-going crossing
in TRACKING with the cycle mark set and a previous one held hands the aggregator one cycle and its true length, which
an OPEN interval adds to its tracked cycles and sets, valid or not and skip mark or not; no other crossing adds to
them; and every positive-going crossing after which the tracker is TRACKING leaves the mark set. -/
def Obligations.CountedCrossingEndsWindow : Prop :=
  ∀ (s : State) (d : Direction), (∀ k, s.tracker.since d = some k → 128 ≤ k) →
    let length := match s.tracker.since d with
      | none => s.tracker.nominal
      | some k => max 128 (min 256 k)
    let eligible := d = .positive ∧ 2000 ≤ s.tracker.lastU.get s.tracker.ref
    ((s.tracker.state = .tracking ∨ eligible) → ∃ v, (s.countedCrossing d).engine.latest = some v
      ∧ v = ({ s with tracker := { s.tracker with state := .tracking } }).valueSet length ∧ v.n = length
      ∧ v.tracker = .tracking ∧ v.ref = s.tracker.ref ∧ (s.countedCrossing d).tracker.sinceBoundary = 0)
    ∧ ((s.tracker.state ≠ .tracking ∧ ¬ eligible) →
      s.countedCrossing d = { s with tracker := s.tracker.countCrossing d })
    ∧ (s.tracker.countCrossing d).since d = some 0
    ∧ (d = .positive → (s.countedCrossing d).tracker.state = .tracking → (s.countedCrossing d).tracker.cycleMark = true)
    ∧ (∀ i, s.aggregator.interval = some i → s.aggregator.freeze = none →
      ∃ j, (s.countedCrossing d).aggregator.interval = some j
        ∧ (∀ k, s.tracker.state = .tracking → d = .positive → s.tracker.cycleMark = true → s.tracker.sincePos = some k →
          j.sums.cycles = i.sums.cycles + 1 ∧ j.sums.sets = i.sums.sets + k)
        ∧ ((s.tracker.state ≠ .tracking ∨ d = .negative ∨ s.tracker.cycleMark = false ∨ s.tracker.sincePos = none) →
          j.sums.cycles = i.sums.cycles ∧ j.sums.sets = i.sums.sets))

/-- The RMS root is the integer square root of the mean square (R20). For 1 to 256 converter codes in the signed
16-bit range, the sum of squares Q is exact and at most 2^38, the mean square M = floor(Q / n) is at most 2^30, and
the root R is the greatest integer whose square does not exceed M, at most 32,768. -/
def Obligations.RootIsFloorOfSquareRoot : Prop :=
  ∀ (codes : List Int), 1 ≤ codes.length → codes.length ≤ 256 → (∀ x ∈ codes, -32768 ≤ x ∧ x ≤ 32767) →
    let q := squaresOf codes
    let m := q / codes.length
    let r := rootOf q codes.length
    (q : Int) = (codes.map fun x => x * x).sum ∧ q ≤ 2 ^ 38 ∧ m ≤ 2 ^ 30 ∧ r ≤ 32768
      ∧ r * r ≤ m ∧ m < (r + 1) * (r + 1)

/-- Power rounds to nearest, ties away from zero, and is clamped (R24). For every mean product and every positive D,
the converted power lies in -30,000..30,000, changes sign with the product, lies within half a unit of Pc x 10,000 / D
when it is not clamped, takes a positive tie up, and is 30,000 exactly when the quotient is at least 29,999.5 and
-30,000 exactly when it is at most -29,999.5. -/
def Obligations.PowerRoundsAwayFromZero : Prop :=
  ∀ (pc : Int) (d : Nat), 0 < d →
    -30000 ≤ powerValue pc d ∧ powerValue pc d ≤ 30000 ∧ powerValue (-pc) d = -powerValue pc d
      ∧ (-30000 < powerValue pc d → powerValue pc d < 30000 →
        2 * (powerValue pc d * d - pc * 10000) ≤ d ∧ -(d : Int) ≤ 2 * (powerValue pc d * d - pc * 10000))
      ∧ (∀ k : Nat, k < 30000 → 2 * (pc * 10000) = (2 * k + 1) * d → powerValue pc d = k + 1)
      ∧ (powerValue pc d = 30000 ↔ 59999 * (d : Int) ≤ 2 * (pc * 10000))
      ∧ (powerValue pc d = -30000 ↔ 2 * (pc * 10000) ≤ -(59999 * (d : Int)))

/-- Every value set holds what its formulas give over its newest sets, in the ranges of its rules (R7, R20, R21, R22,
R23, R24, R25, R26, R27). For every state and window length n, the value set of n is computed over the n newest sets
of the history. For each phase, U½ is floor((R x 10,000 + floor(scale / 2)) / scale) of the voltage root R, held at
30,000 dh; I½ likewise of the current root, held at 60,000 nh; p½ is the power value of the mean product truncated
toward zero with D = Udin_code x Inom_code; S½ is floor(U½ x I½ / 10,000). The totals are the sums over the considered
phases, all three under THREE and A alone under SINGLE. It carries n, the tracker's state and reference, the times of
the newest set, the substituted sets among the n newest marks, valid exactly when they are at most two, clipped when
one of the marks is, and the arrangement. Its values lie in 0..30,000, 0..60,000, -30,000..30,000 and 0..180,000, its
totals in -90,000..90,000 and 0..540,000. -/
def Obligations.ValueSetFollowsItsFormulas : Prop :=
  ∀ (s : State) (n : Nat),
    let v := s.valueSet n
    let set := s.bank.inForce
    let three : Prop := set.arrangement ≠ 1
    let window := s.engine.history.take n
    let marks := s.link.marks.take n
    let volts : Phase → List Int := fun f => window.map fun x =>
      match f with
      | .a => x.ua.toInt
      | .b => x.ub.toInt
      | .c => x.uc.toInt
    let amps : Phase → List Int := fun f => window.map fun x =>
      match f with
      | .a => x.ia.toInt
      | .b => x.ib.toInt
      | .c => x.ic.toInt
    (∀ f, (v.phases.get f).u =
        min 30000 ((rootOf (squaresOf (volts f)) n * 10000 + set.udin / 2) / set.udin)
      ∧ (v.phases.get f).i = min 60000 ((rootOf (squaresOf (amps f)) n * 10000 + set.inom / 2) / set.inom)
      ∧ (v.phases.get f).p = powerValue ((List.zipWith (· * ·) (volts f) (amps f)).sum.tdiv n) (set.udin * set.inom)
      ∧ (v.phases.get f).s = (v.phases.get f).u * (v.phases.get f).i / 10000
      ∧ ((v.phases.get f).considered = true ↔ (f = .a ∨ three))
      ∧ (v.phases.get f).u ≤ 30000 ∧ (v.phases.get f).i ≤ 60000 ∧ -30000 ≤ (v.phases.get f).p
      ∧ (v.phases.get f).p ≤ 30000 ∧ (v.phases.get f).s ≤ 180000)
    ∧ (three → v.totalP = v.phases.a.p + v.phases.b.p + v.phases.c.p
      ∧ v.totalS = v.phases.a.s + v.phases.b.s + v.phases.c.s ∧ v.arrangement = .three)
    ∧ (¬ three → v.totalP = v.phases.a.p ∧ v.totalS = v.phases.a.s ∧ v.arrangement = .single)
    ∧ -90000 ≤ v.totalP ∧ v.totalP ≤ 90000 ∧ v.totalS ≤ 540000
    ∧ v.n = n ∧ v.tracker = s.tracker.state ∧ v.ref = s.tracker.ref ∧ v.elapsed = s.tracker.setElapsed
    ∧ v.clock = s.tracker.setClock ∧ v.substitutions = (marks.filter fun m => m.substituted).length
    ∧ (v.valid = true ↔ (marks.filter fun m => m.substituted).length ≤ 2)
    ∧ (v.clipped = true ↔ ∃ m ∈ marks, m.clipped = true)

/-- With no reduction open, a valid window below Td opens one, and a TRACKING window that does not enters the ring
(R40, R41, R42, R44, R57, R60, R61, R63, R64, R73). With no reduction open, a valid window with some considered phase
below Td opens one: INTERRUPTED, with its first interruption entry at the window's boundary, when every considered
phase is below Ti, and otherwise DIP with no interruption part. Its start is the window's boundary with the time
quality of its set (log 3), its phase set the considered phases below Td, its residual the lowest U½ of the considered
phases on the lowest-lettered phase that has it, clipped inside as the window is, the other flags clear. Its
references are those of the ring: absent below 20 entries, and at 20 the sum of total p / 20 truncated toward zero and
the sum of total S / 20 floored; D and c are 0 and not frozen before a DIP opening adds its own window. The builder
takes the opening notice: EMPTY it stays; with 1 to 7 members its timer stops; with 8 they become one BURST, counted
once and taken by the store, and it is EMPTY. A window with no phase below Td opens none and leaves the builder; it
enters the ring as the newest of at most 20 entries when it is TRACKING and the skip mark is clear. Every window
clears a set skip mark, and no other changes the ring. With no swell and no gap open, and fewer than 8 members or no
opening, no record is made. -/
def Obligations.WindowOpensReductionOrFillsRing : Prop :=
  ∀ (s : State) (v : ValueSet), v.valid = true → s.reduction = none →
    let t := s.takeWindow v
    let ring := s.estimator.ring
    let below : Prop := ∃ f, s.considered.has f = true ∧ v.u f < s.bank.inForce.td
    let interrupted : Prop := ∀ f, s.considered.has f = true → v.u f < s.bank.inForce.ti
    (below → ∃ r, t.reduction = some r
      ∧ (interrupted → r.state = .interrupted
        ∧ r.interruption = some { first := v.elapsed, last := none, entries := 1 })
      ∧ (¬ interrupted → r.state = .dip ∧ r.interruption = none)
      ∧ r.start = { clock := v.clock, elapsed := v.elapsed, quality := s.tracker.setQuality }
      ∧ (∀ f, r.phases.has f = true ↔ (s.considered.has f = true ∧ v.u f < s.bank.inForce.td))
      ∧ s.considered.has r.residualPhase = true ∧ v.u r.residualPhase = r.residual
      ∧ (∀ f, s.considered.has f = true → r.residual ≤ v.u f ∧ (v.u f = r.residual → r.residualPhase.code ≤ f.code))
      ∧ r.clippedInside = v.clipped ∧ r.gapInside = false ∧ r.spannedLoss = false
      ∧ r.startedAtLoss = false
      ∧ (∃ opening : DirectionFields, opening = { ref := opening.ref, sumD := 0, count := 0, frozen := false }
        ∧ opening.ref = referencesOf ring
        ∧ (ring.length < 20 → opening.ref = none)
        ∧ (ring.length = 20 → opening.ref = some
            { p := (ring.map RingEntry.p).sum.tdiv 20, s := (ring.map RingEntry.s).sum / 20 })
        ∧ (interrupted → r.dir = opening) ∧ (¬ interrupted → r.dir = opening.accumulate v false)))
    ∧ (below → s.builder.members = [] → t.builder = s.builder)
    ∧ (below → 1 ≤ s.builder.members.length → s.builder.members.length ≤ 7 → t.builder = { s.builder with timer := none })
    ∧ (below → 8 ≤ s.builder.members.length → t.builder = { members := [], timer := none })
    ∧ (below → s.swell = none → s.gap.opened = none →
      (s.builder.members.length ≤ 7 → t.matrix = s.matrix ∧ t.store = s.store)
      ∧ (8 ≤ s.builder.members.length → t.matrix = countRecord s.matrix (.burst s.builder.members)
        ∧ t.store = (s.store.take s.now (.burst s.builder.members)).settle))
    ∧ (¬ below → t.reduction = none ∧ t.builder = s.builder
      ∧ (s.swell = none → s.gap.opened = none → t.matrix = s.matrix ∧ t.store = s.store))
    ∧ t.estimator.skip = false
    ∧ (¬ below → v.tracker = .tracking → s.estimator.skip = false →
      t.estimator.ring = (({ p := v.totalP, s := v.totalS } : RingEntry) :: ring).take 20)
    ∧ ((below ∨ v.tracker ≠ .tracking ∨ s.estimator.skip = true) → t.estimator.ring = ring)

/-- An open reduction moves, is updated and closes by the checks of each valid window (R40, R42, R43, R44, R45, R46,
R47, R61, R64, R69, R72). A valid window on an open reduction: in DIP it closes the event when every considered phase
is at Td + H or above, enters INTERRUPTED (one entry more, saturating, the first start kept) when every one is below
Ti, and otherwise stays; in INTERRUPTED it stays unless some considered phase is at Ti + H or above, and then the last
interruption end is the window's boundary and the DIP checks follow; in SUPPLY_LOST it changes nothing. Phases below
Td join the phase set, a lower U½ becomes the residual with its lowest-lettered phase, clipped inside is kept or set,
and a DIP window enters the accumulators, the closing one from DIP among them. A close leaves no reduction and hands
the builder a summary of start, close, saturating duration, interruption offset, span and entries, flags, arrangement,
verdict, reason, references, count and metric: with burst window 0 it becomes a REDUCTION record, counted once and
taken by the store, and otherwise the newest member with the timer set to the close plus the window. Otherwise the
builder, the matrix and the store are unchanged. The ring is kept and a set skip mark cleared. No swell and no gap is
open in the clauses on records. -/
def Obligations.ReductionMovesAndCloses : Prop :=
  ∀ (s : State) (v : ValueSet) (r : Reduction), v.valid = true → s.reduction = some r →
    let set := s.bank.inForce
    let t := s.takeWindow v
    let all : (Nat → Prop) → Prop := fun test => ∀ f, s.considered.has f = true → test (v.u f)
    let ended : Prop := all fun u => set.td + set.h ≤ u
    let lost : Prop := all fun u => u < set.ti
    let recovered : Prop := ¬ all fun u => u < set.ti + set.h
    let closes : Prop := ended ∧ (r.state = .dip ∨ (r.state = .interrupted ∧ recovered))
    let part : Option InterruptionPart :=
      if r.state = .interrupted then r.interruption.map fun x => { x with last := some v.elapsed } else r.interruption
    let updated : PhaseSet → Nat → Phase → Prop := fun phases residual phase =>
      (∀ f, phases.has f = true ↔ (r.phases.has f = true ∨ (s.considered.has f = true ∧ v.u f < set.td)))
      ∧ residual ≤ r.residual ∧ all (fun u => residual ≤ u)
      ∧ ((residual = r.residual ∧ phase = r.residualPhase)
        ∨ (residual < r.residual ∧ s.considered.has phase = true ∧ v.u phase = residual
          ∧ ∀ f, s.considered.has f = true → v.u f = residual → phase.code ≤ f.code))
    t.estimator = { ring := s.estimator.ring, skip := false }
    ∧ (r.state = .supplyLost → t.reduction = some r)
    ∧ (r.state ≠ .supplyLost → ¬ closes → ∃ x : Reduction, t.reduction = some x ∧ updated x.phases x.residual x.residualPhase
      ∧ x = { r with
          state := x.state, phases := x.phases, residual := x.residual, residualPhase := x.residualPhase,
          interruption := x.interruption, clippedInside := r.clippedInside || v.clipped,
          dir := if x.state = .dip then r.dir.accumulate v r.spannedLoss else r.dir }
      ∧ (r.state = .dip → lost → x.state = .interrupted ∧ x.interruption = some (match r.interruption with
          | none => { first := v.elapsed, last := none, entries := 1 }
          | some y => { y with entries := min 65535 (y.entries + 1) }))
      ∧ (r.state = .dip → ¬ lost → x.state = .dip ∧ x.interruption = r.interruption)
      ∧ (r.state = .interrupted → ¬ recovered → x.state = .interrupted ∧ x.interruption = r.interruption)
      ∧ (r.state = .interrupted → recovered → x.state = .dip ∧ x.interruption = part))
    ∧ (¬ closes → t.builder = s.builder
      ∧ (s.swell = none → s.gap.opened = none → t.matrix = s.matrix ∧ t.store = s.store))
    ∧ (closes → t.reduction = none ∧ ∃ m : Summary, updated m.phases m.residual m.residualPhase
      ∧ (let dir := if r.state = .dip then r.dir.accumulate v r.spannedLoss else r.dir
         let j := judge set.margin set.loadFloor dir
         m = { start := r.start, closeClock := v.clock, closeElapsed := v.elapsed,
               duration := min 4294967295 (v.elapsed - r.start.elapsed),
               saturated := decide (4294967295 < v.elapsed - r.start.elapsed), phases := m.phases, residual := m.residual,
               residualPhase := m.residualPhase,
               interruption := part.map fun x =>
                 { offset := min 4294967295 (x.first - r.start.elapsed),
                   span := min 4294967295 (x.last.getD x.first - x.first), entries := x.entries },
               gapInside := r.gapInside, clippedInside := r.clippedInside || v.clipped, spannedLoss := r.spannedLoss,
               startedAtLoss := r.startedAtLoss, arrangement := s.arrangement, verdict := j.verdict, reason := j.reason,
               ref := r.dir.ref, count := dir.count, metric := j.metric })
      ∧ (set.burstWindow = 0 → t.builder = s.builder
        ∧ (s.swell = none → s.gap.opened = none → t.matrix = countRecord s.matrix (.reduction m)
          ∧ t.store = (s.store.take s.now (.reduction m)).settle))
      ∧ (set.burstWindow ≠ 0 →
        t.builder = { members := s.builder.members ++ [m], timer := some (v.elapsed + set.burstWindow) }
        ∧ (s.swell = none → s.gap.opened = none → t.matrix = s.matrix ∧ t.store = s.store)))

/-- Each window reviews the tracker's reference and is summed into the open interval (R8, R11, R13, R19, R28, R90,
R93). The tracker takes each window's U½: in TRACKING a reference at 2,000 dh or more sets the low-window count to 0,
a lower one adds one, and at 2 the tracker leaves it; in SEARCH and FREE_RUN it keeps a reference that is considered
and at 2,000 dh or more, and leaves any other at once. Leaving takes the lowest-lettered eligible phase in SEARCH, or
phase A in FREE_RUN when none is eligible, with the cycle mark clear, the low count 0, and, when the reference
changes, the crossing memory empty and the last direction unknown. A boundary issues the value set of its length,
gives it to the tracker and then, with no burst expiry overdue (log 30), to every other user as a window. An OPEN
interval takes each window: event overlap is set when an event context is open before or after it, measurement gap
inside likewise for the gap; a valid window without the skip mark adds each considered phase's squared U½, its
extremes, total p and one to N; the skip mark is cleared by a valid window. While the aggregator is not OPEN it takes
none. -/
def Obligations.WindowsReviewReferenceAndAreSummed : Prop :=
  (∀ (t : Tracker) (c : PhaseSet) (v : ValueSet),
      let u := t.review c v
      let low : Prop := v.u t.ref < 2000
      let fits : Phase → Prop := fun f => c.has f = true ∧ 2000 ≤ v.u f
      let seen : Tracker := { t with lastU := { a := v.u .a, b := v.u .b, c := v.u .c } }
      let left : Prop := (¬ (∃ f, fits f) → u.state = .freeRun ∧ u.ref = .a)
        ∧ ((∃ f, fits f) → u.state = .search ∧ fits u.ref ∧ ∀ f, fits f → u.ref.code ≤ f.code)
        ∧ u = { seen with
            state := u.state, ref := u.ref, cycleMark := false, lowCount := 0,
            sincePos := if u.ref = t.ref then t.sincePos else none, sinceNeg := if u.ref = t.ref then t.sinceNeg else none,
            lastDir := if u.ref = t.ref then t.lastDir else none }
      (t.state = .tracking → ¬ low → u = { seen with lowCount := 0 })
      ∧ (t.state = .tracking → low → t.lowCount = 0 → u = { seen with lowCount := 1 })
      ∧ (t.state = .tracking → low → 1 ≤ t.lowCount → left)
      ∧ (t.state ≠ .tracking → fits t.ref → u = seen)
      ∧ (t.state ≠ .tracking → ¬ fits t.ref → left))
    ∧ (∀ (s : State) (n : Nat),
      let v := s.valueSet n
      let reviewed := ({ s.tracker with sinceBoundary := 0, firstBoundary := false }).review s.considered v
      (s.placeBoundary n).engine.latest = some v ∧ (s.placeBoundary n).tracker = reviewed
        ∧ ((∀ e, s.builder.timer = some e → s.tracker.setElapsed ≤ e) → s.placeBoundary n =
          ({ s with engine := { s.engine with latest := some v }, tracker := reviewed }).takeWindow v))
    ∧ (∀ (s : State) (v : ValueSet),
      let t := s.takeWindow v
      (∀ i, s.aggregator.interval = some i → s.aggregator.freeze = none → ∃ j, t.aggregator =
          { s.aggregator with interval := some j, skip := s.aggregator.skip && ! v.valid }
        ∧ j = { i with
            sums := j.sums,
            flags := { i.flags with
              eventOverlap := i.flags.eventOverlap || (s.reduction.isSome || s.swell.isSome)
                || (t.reduction.isSome || t.swell.isSome),
              gapInside := i.flags.gapInside || s.gap.opened.isSome || t.gap.opened.isSome } }
        ∧ ((v.valid = false ∨ s.aggregator.skip = true) → j.sums = i.sums)
        ∧ (v.valid = true → s.aggregator.skip = false →
          j.sums.p = i.sums.p + v.totalP ∧ j.sums.n = i.sums.n + 1 ∧ j.sums.cycles = i.sums.cycles
          ∧ j.sums.sets = i.sums.sets
          ∧ ∀ f, (i.arrangement.considered.has f = false → j.sums.phases.get f = i.sums.phases.get f)
            ∧ (i.arrangement.considered.has f = true → j.sums.phases.get f =
                { squares := (i.sums.phases.get f).squares + v.u f * v.u f,
                  minimum := if i.sums.n = 0 then v.u f else min (i.sums.phases.get f).minimum (v.u f),
                  maximum := if i.sums.n = 0 then v.u f else max (i.sums.phases.get f).maximum (v.u f) })))
      ∧ ((s.aggregator.interval = none ∨ s.aggregator.freeze.isSome = true) → t.aggregator = s.aggregator))

/-- An invalid window holds the events and counts the run; the twentieth opens a measurement gap (R39, R54, R57, R61,
R62). An invalid window makes no record, changes no builder or matrix, and clears a set skip mark. The run count rises
by one, holding at 20; at a count of 0 the run start becomes the window's boundary clock time and elapsed time with
the time quality of its set (log 3), and otherwise it is kept. An OPEN gap keeps its start and has one window more,
saturating at 4,294,967,295. At a run count of 19 with the gap CLOSED the gap opens from the run start with 20
windows, gap inside is set on the open contexts with every other field kept, and the ring is emptied. At every other
invalid window the reduction and the swell are unchanged, the ring is kept, and a CLOSED gap stays CLOSED. -/
def Obligations.InvalidWindowsHoldTheContexts : Prop :=
  ∀ (s : State) (v : ValueSet), v.valid = false →
    let t := s.takeWindow v
    t.builder = s.builder ∧ t.matrix = s.matrix ∧ t.store = s.store ∧ t.estimator.skip = false
      ∧ t.gap.runCount = min 20 (s.gap.runCount + 1)
      ∧ (s.gap.runCount = 0 →
        t.gap.runStart = some { clock := v.clock, elapsed := v.elapsed, quality := s.tracker.setQuality })
      ∧ (∀ start, s.gap.runCount ≠ 0 → s.gap.runStart = some start → t.gap.runStart = some start)
      ∧ (∀ g, s.gap.opened = some g → t.gap.opened = some { g with windows := min 4294967295 (g.windows + 1) })
      ∧ ((s.gap.opened.isSome = true ∨ s.gap.runCount ≠ 19) →
        t.reduction = s.reduction ∧ t.swell = s.swell ∧ t.estimator.ring = s.estimator.ring
          ∧ (s.gap.opened = none → t.gap.opened = none))
      ∧ (s.gap.opened = none → s.gap.runCount = 19 →
        t.reduction = s.reduction.map (fun r => { r with gapInside := true })
          ∧ t.swell = s.swell.map (fun w => { w with gapInside := true }) ∧ t.estimator.ring = []
          ∧ ∃ start, t.gap.runStart = some start ∧ t.gap.opened = some { start := start, windows := 20 })

/-- A DIP window adds to D and c exactly under the conditions, and never past the bounds (R64, R65). On a DIP window
the direction fields gain total p minus P_pre and one count exactly when references are TAKEN, the window is TRACKING
and not clipped, no supply loss was spanned and the frozen mark is clear; an addition that would leave a bound is not
made and sets the frozen mark; otherwise, and on every other window, D and c keep their values. D and c never leave
their bounds. -/
def Obligations.AccumulatorsHoldTheirBounds : Prop :=
  ∀ (d : DirectionFields) (v : ValueSet) (spanned : Bool),
    let e := d.accumulate v spanned
    (∀ r, d.ref = some r → v.tracker = .tracking → v.clipped = false → spanned = false → d.frozen = false →
      let next := d.sumD + (v.totalP - r.p)
      ((-140737488355328 ≤ next ∧ next ≤ 140737488355327 ∧ d.count + 1 ≤ 4294967295) →
        e = { d with sumD := next, count := d.count + 1 })
      ∧ (¬ (-140737488355328 ≤ next ∧ next ≤ 140737488355327 ∧ d.count + 1 ≤ 4294967295) →
        e = { d with frozen := true }))
    ∧ ((d.ref = none ∨ v.tracker ≠ .tracking ∨ v.clipped = true ∨ spanned = true ∨ d.frozen = true) → e = d)
    ∧ (-140737488355328 ≤ d.sumD → d.sumD ≤ 140737488355327 → d.count ≤ 4294967295 →
      -140737488355328 ≤ e.sumD ∧ e.sumD ≤ 140737488355327 ∧ e.count ≤ 4294967295)
    ∧ (∀ (step : RedStep) (kind : WindowKind), (kind = .dip →
        step.accumulated kind v = step.context.map fun r => { r with dir := r.dir.accumulate v r.spannedLoss })
      ∧ (kind ≠ .dip → step.accumulated kind v = step.context))

/-- The verdict takes the first reason that applies, and the metric is truncated and clamped (R67, R68, R69). Without
references the verdict is UNDETERMINED for NO_REFERENCE; below the load floor it is LOW_LOAD; with no counted window
it is INTERRUPTED_ONLY; otherwise m decides against the margin, where m is D x 10,000 / (c x S_pre) truncated toward
zero and clamped to -30,000..30,000 (so it is 30,000 only where the quotient is at least that, and -30,000 only where
it is at most that), and m is given with the verdict exactly for METRIC and MARGIN. -/
def Obligations.VerdictFollowsTheMetric : Prop :=
  ∀ (margin floor : Nat) (d : DirectionFields),
    (d.ref = none → judge margin floor d = { verdict := .undetermined, reason := .noReference, metric := none })
    ∧ (∀ r, d.ref = some r → r.s < floor →
      judge margin floor d = { verdict := .undetermined, reason := .lowLoad, metric := none })
    ∧ (∀ r, d.ref = some r → floor ≤ r.s → d.count = 0 →
      judge margin floor d = { verdict := .undetermined, reason := .interruptedOnly, metric := none })
    ∧ (∀ r, d.ref = some r → floor ≤ r.s → 0 < d.count → 0 < r.s → 0 < margin → ∃ m : Int,
      (judge margin floor d).metric = some m ∧ -30000 ≤ m ∧ m ≤ 30000
      ∧ (-30000 < m → m < 30000 → (m.natAbs * (d.count * r.s) ≤ (d.sumD * 10000).natAbs
          ∧ (d.sumD * 10000).natAbs < (m.natAbs + 1) * (d.count * r.s)))
      ∧ (m = 30000 ↔ 30000 * ((d.count * r.s : Nat) : Int) ≤ d.sumD * 10000)
      ∧ (m = -30000 ↔ d.sumD * 10000 ≤ -(30000 * ((d.count * r.s : Nat) : Int)))
      ∧ (0 ≤ d.sumD → 0 ≤ m) ∧ (d.sumD ≤ 0 → m ≤ 0)
      ∧ (((judge margin floor d).verdict = .downstream ∧ (judge margin floor d).reason = .metric) ↔ (margin : Int) ≤ m)
      ∧ (((judge margin floor d).verdict = .upstream ∧ (judge margin floor d).reason = .metric) ↔ m ≤ -(margin : Int))
      ∧ (((judge margin floor d).verdict = .undetermined ∧ (judge margin floor d).reason = .margin) ↔
          (-(margin : Int) < m ∧ m < margin)))

/-- A finalized record adds one to the one cell its kind gives, saturating (R77, R80, R81, R82). With 31 cells, a
REDUCTION, a BURST with members or a SWELL adds one to exactly the cell that the tables of R80 and R81 give, a cell at
4,294,967,295 staying there, and leaves the other cells; a BURST falls in the cell of a reduction with the residual
and the interruption part of its worst member, the earliest of those with the lowest residual, and the duration of its
whole span, held at 4,294,967,295. An INTERVAL, GAP, SETTINGS, TIMESTEP, RESTART or EPOCH record has no cell and
leaves all of them. -/
def Obligations.FinalizedRecordsCountOnce : Prop :=
  ∀ (cells : List Nat) (r : Record), cells.length = 31 →
    (match r.cell with
      | none => countRecord cells r = cells
      | some i => i < 31 ∧ (countRecord cells r).length = 31
          ∧ (∀ j, j ≠ i → (countRecord cells r)[j]? = cells[j]?)
          ∧ ∀ n, cells[i]? = some n → (countRecord cells r)[i]? = some (min 4294967295 (n + 1)))
    ∧ (∀ x : Summary, ∃ row column, (Record.reduction x).cell = some (5 * row + column) ∧ row < 5 ∧ column < 5
      ∧ (row = 4 ↔ x.interruption.isSome = true)
      ∧ (x.interruption = none → (row = 0 ↔ 8500 ≤ x.residual) ∧ (row = 1 ↔ 7000 ≤ x.residual ∧ x.residual ≤ 8499)
          ∧ (row = 2 ↔ 5000 ≤ x.residual ∧ x.residual ≤ 6999) ∧ (row = 3 ↔ x.residual < 5000))
      ∧ (column = 0 ↔ x.duration < 100) ∧ (column = 1 ↔ 100 ≤ x.duration ∧ x.duration < 400)
      ∧ (column = 2 ↔ 400 ≤ x.duration ∧ x.duration < 2000) ∧ (column = 3 ↔ 2000 ≤ x.duration ∧ x.duration < 20000)
      ∧ (column = 4 ↔ 20000 ≤ x.duration))
    ∧ (∀ x : SwellRecord, ∃ row column, (Record.swell x).cell = some (25 + 3 * row + column) ∧ row < 2 ∧ column < 3
      ∧ (row = 0 ↔ 13000 ≤ x.maximum) ∧ (column = 0 ↔ x.duration < 400)
      ∧ (column = 1 ↔ 400 ≤ x.duration ∧ x.duration < 2000) ∧ (column = 2 ↔ 2000 ≤ x.duration))
    ∧ (∀ (first : Summary) (rest : List Summary), ∃ earlier worst later, first :: rest = earlier ++ worst :: later
      ∧ (∀ m ∈ earlier, worst.residual < m.residual) ∧ (∀ m ∈ later, worst.residual ≤ m.residual)
      ∧ (Record.burst (first :: rest)).cell = (Record.reduction { worst with
          duration := min 4294967295 ((rest.getLast?.getD first).closeElapsed - first.start.elapsed) }).cell)
    ∧ (∀ i g x t w e, (Record.interval i).cell = none ∧ (Record.gap g).cell = none ∧ (Record.settings x).cell = none
      ∧ (Record.timestep t).cell = none ∧ (Record.restart w).cell = none ∧ (Record.epoch e).cell = none)

/-- The rebuild counts each stored record in the cell it was counted in, and sums them (R84, R80, R81, R172, R173).
For every record whose fields fit their layout, the cell that the rebuild of a COLD restart reads from its stored
bytes is the cell that the record falls in when it is finalized; records that are not counted are not counted by the
rebuild. For any stored records the rebuilt matrix has 31 cells, each the number of the records that fall in it, held
at 4,294,967,295. -/
def Obligations.StoredRecordsCountTheSame : Prop :=
  (∀ (r : Record) (number : Nat) (chain : Chain), r.fits →
    Stored.cell { number := number, chain := chain, bytes := r.bytes number chain } = r.cell)
    ∧ ∀ (records : List Stored), (rebuiltMatrix records).length = 31
      ∧ ∀ k, k < 31 → (rebuiltMatrix records)[k]? =
          some (min 4294967295 ((records.filter fun r => r.cell == some k).length))

/-- Every record written to slots reads back well formed and verifies in the chain, whose value is the CRC of R104
(R101, R103, R104, R172, R173). For every record whose fields fit their layout, with a number of 1 to 4,294,967,295,
its bytes fill 1 to 4 whole slots as its kind gives, the store reads them back as a record with that number and chain
field, and with the chain value computed after a previous one the record verifies against it. The chain value of any
bytes after a previous value is the reflected CRC with polynomial 0xEDB88320, initial value and final exclusive-or
0xFFFFFFFF, over the previous value least byte first, then bytes 0 to 4, then every byte from byte 9 on: each byte
enters by exclusive-or, and 8 times the register shifts right by one, with the polynomial when the bit shifted out is
1. -/
def Obligations.RecordsReadBack : Prop :=
  (∀ (r : Record) (number : Nat) (previous : Chain), r.fits → 1 ≤ number → number ≤ max32 →
    let chain := chainOf previous (r.bytes number 0)
    let bytes := r.bytes number chain
    r.chainAfter number previous = chain ∧ bytes.length = 32 * r.slots ∧ 1 ≤ r.slots ∧ r.slots ≤ 4
      ∧ storedAt bytes = some { number := number, chain := chain, bytes := bytes }
      ∧ Stored.chainsFrom { number := number, chain := chain, bytes := bytes } previous = true)
    ∧ ∀ (previous : Chain) (bytes : List Byte),
      let shift : Chain → Chain := fun c => if c.getLsbD 0 then (c >>> 1) ^^^ 0xEDB88320#32 else c >>> 1
      let enter : Chain → Byte → Chain := fun c b =>
        shift (shift (shift (shift (shift (shift (shift (shift (c ^^^ BitVec.ofNat 32 b.toNat))))))))
      let first : List Byte := (List.range 4).map fun k => BitVec.ofNat 8 (previous.toNat / 256 ^ k)
      chainOf previous bytes = (first ++ bytes.take 5 ++ bytes.drop 9).foldl enter 0xFFFFFFFF#32 ^^^ 0xFFFFFFFF#32

/-- A boundary closes the interval into a record and opens the next at it, and commits no pair that R146 holds back
(R88, R89, R92, R93, R146). In RUN, with an interval OPEN and clock time at or past the next boundary,
INTERVAL_BOUNDARY answers next: the INTERVAL record of the closing interval, ending at the boundary, is taken by the
store; the new interval starts at the boundary with fresh sums and flags read from the contexts; the boundary is the
last closed one, and the next is the first whole multiple of the length after it and after clock time; the small-step-
used flag is clear. The record holds what R92 gives: the start, end, length, open time, arrangement, N, flags and both
marks; for N above 0 the root of the mean square and the extremes of each considered phase and the mean power
truncated toward zero, absent otherwise; and the frequency, absent for no tracked cycle or fewer than half the nominal
ones. No pair commits, and nothing else changes, both lines being as R169 has them, at every boundary at which R146
lets nothing commit: the slots not MATCHED, a reduction or a swell open, the builder HOLDING, the store RESETTING, or
the store HELD and the pair without setting 14. The slots and the settings in force then stand. That the boundary may
be taken later than it falls is the model's choice (log 30). -/
def Obligations.BoundaryClosesInterval : Prop :=
  ∀ (s : State) (i : Interval), s.monitor.state = .run → s.aggregator.interval = some i → s.aggregator.freeze = none →
    s.aggregator.nextBoundary ≤ s.clock →
    (s.bank.matched = false ∨ s.reduction.isSome = true ∨ s.swell.isSome = true ∨ s.builder.members ≠ []
      ∨ s.store.state = .resetting ∨ (s.store.state = .held ∧ changeFor s.bank.matchedChanges 14 = none)) →
    s.lineSound .operator → s.lineSound .consumer →
    let b := s.aggregator.nextBoundary
    let minutes := s.bank.inForce.minutes
    let r := i.record b s.monitor.elapsed s.tracker.nominal s.operator.mark s.consumer.mark
    (let openTime := s.monitor.elapsed - i.start.elapsed
      let hertz := if s.tracker.nominal = 160 then 60 else 50
      let sums := i.sums
      r = { startClock := i.start.clock, quality := i.start.quality, endClock := b, minutes := i.minutes,
            openTime := openTime, arrangement := i.arrangement, n := sums.n, volts := r.volts,
            meanP := if sums.n = 0 then none else some (sums.p.tdiv sums.n),
            frequency := if sums.cycles = 0 ∨ 2 * sums.cycles < openTime * hertz / 1000 then none
              else some ((2 * (9600000 * sums.cycles) + sums.sets) / (2 * sums.sets)),
            operatorMark := s.operator.mark, consumerMark := s.consumer.mark, flags := i.flags }
      ∧ ∀ f, let p := sums.phases.get f
        ((sums.n = 0 ∨ i.arrangement.considered.has f = false) → r.volts.get f = none)
        ∧ (sums.n ≠ 0 → i.arrangement.considered.has f = true → p.squares / sums.n < 2 ^ 64 → ∃ agg,
          r.volts.get f = some { agg := agg, minimum := p.minimum, maximum := p.maximum }
          ∧ agg * agg ≤ p.squares / sums.n ∧ p.squares / sums.n < (agg + 1) * (agg + 1)))
    ∧ exec .intervalBoundary s = .next { s with
      store := (s.store.take s.now (.interval r)).settle,
      monitor := { s.monitor with smallStepUsed := false },
      aggregator := {
        interval := some
          { start := { clock := b, elapsed := s.monitor.elapsed, quality := s.monitor.quality }, minutes := minutes,
            arrangement := s.arrangement, sums := .zero,
            flags := { eventOverlap := s.reduction.isSome || s.swell.isSome, gapInside := s.gap.opened.isSome,
                       supplyLost := false, timeAdjusted := false, short := false, afterCommit := false } },
        freeze := none, lastClosed := some b,
        nextBoundary := (max s.clock b / (minutes * 60000) + 1) * (minutes * 60000), skip := s.aggregator.skip } }

/-- A matched pair commits at a boundary when nothing is in progress (R146, R147, R148, R149, R150, R126, R96, R62).
In RUN at a due boundary, with a matched pair that does not hold setting 14, both event contexts IDLE, the builder
EMPTY and the store NORMAL with room for two records, INTERVAL_BOUNDARY answers next: each standing setting takes the
value the pair gives it or stays; the INTERVAL record and then the SETTINGS record stamped with the boundary are
queued under the next two numbers; the area is handed the new values, the change list marked QUEUED and the number;
both slots are empty, the ring is empty and skipped once, and the clock offset moves by setting 13, clamped, or not at
all. The new interval carries first after settings commit, with fresh sums, the length and arrangement now in force
and the skip mark set; with setting 13 it starts at the clock time after the step, time adjusted, with no last closed
boundary, and without it at the boundary, the last closed one; the next boundary is the first of the new length after
the clock time and the last closed boundary. -/
def Obligations.MatchedPairCommits : Prop :=
  ∀ (s : State) (i : Interval), s.monitor.state = .run → s.aggregator.interval = some i → s.aggregator.freeze = none →
    s.aggregator.nextBoundary ≤ s.clock → s.bank.matched = true → changeFor s.bank.matchedChanges 14 = none →
    s.reduction = none → s.swell = none → s.builder.members = [] → s.store.state = .normal → s.store.episode = none →
    s.store.queue.length ≤ 4 → s.store.newest + s.store.queue.length + 2 ≤ max32 →
    let b := s.aggregator.nextBoundary
    let number := s.store.newest + s.store.queue.length + 2
    let changes := (inIndexOrder s.bank.matchedChanges).map (changedOf s.bank.inForce)
    let interval := i.record b s.monitor.elapsed s.tracker.nominal s.operator.mark s.consumer.mark
    let settings : SettingsRecord :=
      { stamp := { clock := b, elapsed := s.monitor.elapsed, quality := s.monitor.quality }, changes := changes,
        restated := false }
    ∃ t, exec .intervalBoundary s = .next t
      ∧ (∀ k, 1 ≤ k → k ≤ 12 → t.bank.inForce.value k =
          match changeFor s.bank.matchedChanges k with
          | some v => v.toNat
          | none => s.bank.inForce.value k)
      ∧ t.store.queue = s.store.queue ++
          [{ number := number - 1, record := .interval interval }, { number := number, record := .settings settings }]
      ∧ t.bank.areaWrites = s.bank.areaWrites ++
          [{ values := some t.bank.inForce, lastChange := some (some { changes := changes, mark := .queued number }),
             lastApplied := some number }]
      ∧ t.bank.operatorSlot = none ∧ t.bank.consumerSlot = none ∧ t.estimator = { ring := [], skip := true }
      ∧ (let stepped : Bool := (changeFor s.bank.matchedChanges 13).isSome
         let minutes := t.bank.inForce.minutes
         t.aggregator = {
          interval := some
            { start := { clock := if stepped then t.clock else b, elapsed := s.monitor.elapsed, quality := s.monitor.quality },
              minutes := minutes, arrangement := t.arrangement, sums := .zero,
              flags := { eventOverlap := false, gapInside := s.gap.opened.isSome, supplyLost := false,
                         timeAdjusted := stepped, short := false, afterCommit := true } },
          freeze := none, lastClosed := if stepped then none else some b,
          nextBoundary := (max t.clock (if stepped then 0 else b) / (minutes * 60000) + 1) * (minutes * 60000),
          skip := true })
      ∧ (match changeFor s.bank.matchedChanges 13 with
          | none => t.monitor.offset = s.monitor.offset
          | some seconds => (t.monitor.elapsed : Int) + t.monitor.offset =
              max (0 : Int) (min (max48 : Int) ((s.clock : Int) + seconds * 1000)))
      ∧ t = { s with
          store := { s.store with queue := t.store.queue, pendingOp := t.store.pendingOp },
          bank := { s.bank with
            inForce := t.bank.inForce, operatorSlot := none, consumerSlot := none, areaWrites := t.bank.areaWrites },
          estimator := t.estimator, aggregator := t.aggregator,
          monitor := { s.monitor with offset := t.monitor.offset, smallStepUsed := false },
          operator := { s.operator with attention := t.operator.attention },
          consumer := { s.consumer with attention := t.consumer.attention } }
      ∧ t.lineSound .operator ∧ t.lineSound .consumer

/-- A matched pair for setting 14 writes the area and begins the epoch reset (R113, R146, R148, R151). In RUN at a due
boundary, with both slots holding setting 14 alone, both event contexts IDLE, the builder EMPTY and the store NORMAL
or HELD, INTERVAL_BOUNDARY answers next: the settings area names the new epoch with the reset mark set, no last change
and last applied number 0; the store is RESETTING; both slots are empty and the settings in force are unchanged; the
array, newest committed and the epoch number stand. That the area is written at once is the model's choice (log 16).
-/
def Obligations.EpochPairBeginsReset : Prop :=
  ∀ (s : State) (i : Interval) (epoch : Nat) (p q : Proposal), s.monitor.state = .run →
    s.aggregator.interval = some i → s.aggregator.freeze = none → s.aggregator.nextBoundary ≤ s.clock →
    s.bank.operatorSlot = some p → s.bank.consumerSlot = some q →
    p.changes = [{ index := 14, value := epoch }] → q.changes = [{ index := 14, value := epoch }] →
    s.reduction = none → s.swell = none → s.builder.members = [] → s.store.state ≠ .resetting →
    ∃ t, exec .intervalBoundary s = .next t ∧ t.store.state = .resetting
      ∧ t.bank.area.epoch = epoch ∧ t.bank.area.resetMark = true ∧ t.bank.area.lastChange = none
      ∧ t.bank.area.lastApplied = 0 ∧ t.bank.operatorSlot = none ∧ t.bank.consumerSlot = none
      ∧ t.bank.inForce = s.bank.inForce ∧ t.estimator = { ring := [], skip := true }
      ∧ t = { s with
          store := { s.store with
            queue := t.store.queue, episode := t.store.episode, state := .resetting, resetPhase := t.store.resetPhase,
            releaseCheck := none, pendingOp := t.store.pendingOp },
          bank := t.bank, estimator := t.estimator, aggregator := t.aggregator,
          monitor := { s.monitor with smallStepUsed := false },
          operator := { s.operator with attention := t.operator.attention },
          consumer := { s.consumer with attention := t.consumer.attention } }
      ∧ t.lineSound .operator ∧ t.lineSound .consumer
      ∧ (t.store.queue = [] → t.store.resetPhase = some .noteWrite) ∧ (t.store.queue ≠ [] → t.store.resetPhase = some .drain)

/-- Every command keeps the array in its canonical form (R100, R106, R114, R117, R118, R172, 07_the_record_store.md
7.1). If the array's list of written bytes is canonical (addresses rising, no blank byte listed) and a command answers
next, the array is canonical after it. The canonical form is the model's (log 12). -/
def Obligations.ArrayStaysCanonical : Prop :=
  ∀ (i : Instr) (s t : State), Memory.wf s.store.array = true → exec i s = .next t → Memory.wf t.store.array = true

/-- A record handed over is numbered and queued, or held back in an episode that a GAP record ends (R102, R103, R105,
R111, R112). A record handed to the store enters the queue under newest assigned plus 1 exactly when the store is
NORMAL, no episode is open, the queue holds fewer than 6 entries and newest assigned is below 4,294,967,295; otherwise
the queue is unchanged, and the episode, opened at this moment if it was CLOSED, counts one more of the record's own
kind, held at 65,535, leaves the other seven counts, and takes this moment as its last. Nothing else changes but the
pending operation. In RUN, with the scan done, the store NORMAL, an episode OPEN, fewer than 6 entries and a number
left, HELD_BACK_GAP_QUEUE answers next: a GAP record with cause HELD_BACK, the episode's start and last times, the
saturated duration and its eight counts enters the queue under the next number, and the episode is CLOSED; with both
lines as R169 has them nothing else changes but the pending operation. When the command comes is the sender's (log
13). -/
def Obligations.RecordsAreQueuedOrHeldBack : Prop :=
  (∀ (s : State) (r : Record),
    let t := s.handOver r
    let free := s.store.state = .normal ∧ s.store.episode = none ∧ s.store.queue.length < 6
      ∧ s.store.newest + s.store.queue.length < max32
    t.store = (s.store.take s.now r).settle
    ∧ t = { s with store := { s.store with
        queue := t.store.queue, episode := t.store.episode, pendingOp := t.store.pendingOp } }
    ∧ (free → t.store.queue = s.store.queue ++ [{ number := s.store.newest + s.store.queue.length + 1, record := r }]
        ∧ t.store.episode = none)
    ∧ (¬ free → t.store.queue = s.store.queue ∧ ∃ e, t.store.episode = some e
        ∧ e.lastClock = s.clock ∧ e.lastElapsed = s.monitor.elapsed
        ∧ (∀ before, s.store.episode = some before → e.start = before.start ∧ e.counts = before.counts.add r)
        ∧ (s.store.episode = none → e.start = s.now ∧ e.counts = HeldCounts.zero.add r)))
    ∧ (∀ (c : HeldCounts) (x : Summary) (members : List Summary) (w : SwellRecord) (i : IntervalRecord) (g : GapRecord)
        (y : SettingsRecord) (z : TimestepRecord) (a : RestartRecord),
      c.add (.reduction x) = { c with reduction := min 65535 (c.reduction + 1) }
      ∧ c.add (.burst members) = { c with burst := min 65535 (c.burst + 1) }
      ∧ c.add (.swell w) = { c with swell := min 65535 (c.swell + 1) }
      ∧ c.add (.interval i) = { c with interval := min 65535 (c.interval + 1) }
      ∧ c.add (.gap g) = { c with gap := min 65535 (c.gap + 1) }
      ∧ c.add (.settings y) = { c with settings := min 65535 (c.settings + 1) }
      ∧ c.add (.timestep z) = { c with timestep := min 65535 (c.timestep + 1) }
      ∧ c.add (.restart a) = { c with restart := min 65535 (c.restart + 1) })
    ∧ ∀ (s : State) (e : Episode), s.monitor.state = .run → s.store.scanned = true → s.store.state = .normal →
    s.store.episode = some e → s.store.queue.length < 6 → s.store.newest + s.store.queue.length < max32 →
    s.lineSound .operator → s.lineSound .consumer → ∃ t, exec .heldBackGapQueue s = .next t
      ∧ t = { s with store := { s.store with
          queue := s.store.queue ++ [{
            number := s.store.newest + s.store.queue.length + 1,
            record := .gap { cause := .heldBack, startClock := e.start.clock, quality := e.start.quality,
                             endClock := e.lastClock, duration := min max32 (e.lastElapsed - e.start.elapsed),
                             windows := 0, counts := e.counts } }],
          episode := none, pendingOp := t.store.pendingOp } }

/-- The arbiter serves reads first, with their records, and then starts the store's pending operation (R104, R106,
R107, R108, R109, R110, R113, R114, R115, R162, R175). In RUN with the array free and the scan done, ARBITER_GRANT
answers next. With a read waiting on a port, and none on the other or the other served last, that port gets its reply:
its records with their count, the marks copied and cleared, and it is the port served last. With oldest stored
present, the records run in number order from the first asked for, or from oldest stored with STARTED LATER when that
is higher, at most the count: a number up to newest committed gives the stored record's bytes with mark 0, a higher
one the queue entry's with mark 1 and chain field 0, and a first number above newest assigned gives none. With oldest
stored absent the reply is EMPTY STORE with no record. With no read waiting, and both lines as R169 has them: a
pending WRITE puts the head's write in flight, its chain value computed after newest committed's, at the first slot of
the next block when no slot is left; a pending PAD FILL is put in flight; a pending ERASE of a releasable block is put
in flight, and of another block, with the store NORMAL, makes the store HELD with a check due 60,000 ms later, and in
the drain of a reset takes the queue out into the episode, in order, and hands the reset note to the area; a pending
erase of a reset, and a pending EPOCH write with its chain value from the seed 0, are put in flight. Nothing else
changes. -/
def Obligations.ArbiterGivesTheArray : Prop :=
  (∀ (s : State), s.monitor.state = .run → s.store.scanned = true → s.store.inFlight = none →
    (∀ p tag first count, (s.port p).inProcess = some (.read tag first count) →
      ((s.port p.other).waitingRead = none ∨ s.store.lastServed = p.other) →
      let reply := s.store.readReply first count
      exec .arbiterGrant s = .next ({ s with store := { s.store with lastServed := p } }.setPort p
        { s.port p with
          inProcess := none, replyState := .ready, overrun := false, abandoned := false,
          reply := replyFrame p 2 tag .ok (replyFlags (s.port p).overrun (s.port p).abandoned reply.1)
            (leBytes 1 reply.2.length ++ reply.2.flatten) }))
    ∧ (s.operator.waitingRead = none → s.consumer.waitingRead = none → s.lineSound .operator → s.lineSound .consumer →
      (∀ e rest, s.store.pendingOp = some .writeHead → s.store.queue = e :: rest →
        let chain := chainOf s.store.newestChain (e.record.bytes e.number 0)
        exec .arbiterGrant s = .next { s with store := { s.store with
          wpBlock := if s.store.wpSlot < 128 then s.store.wpBlock else (s.store.wpBlock + 1) % 1024,
          wpSlot := if s.store.wpSlot < 128 then s.store.wpSlot else 0,
          inFlight := some (.recordWrite (e.record.bytes e.number chain) chain), pendingOp := none } })
      ∧ (s.store.pendingOp = some .padFill → exec .arbiterGrant s = .next { s with store := { s.store with
          inFlight := some .padFill, pendingOp := none } })
      ∧ (∀ b, s.store.pendingOp = some (.eraseBlock b) → s.releasable b = true →
        exec .arbiterGrant s = .next { s with store := { s.store with
          inFlight := some (.eraseBlock b), pendingOp := none } })
      ∧ (∀ b, s.store.pendingOp = some (.eraseBlock b) → s.releasable b = false → s.store.state = .normal →
        ∃ t, exec .arbiterGrant s = .next t ∧ t.store.state = .held ∧ t.store.pendingOp = none
          ∧ t.store.releaseCheck = some (s.monitor.elapsed + 60000)
          ∧ t = { s with
              store := { s.store with state := .held, releaseCheck := t.store.releaseCheck, pendingOp := none },
              operator := { s.operator with attention := true }, consumer := { s.consumer with attention := true } })
      ∧ (∀ b, s.store.pendingOp = some (.eraseBlock b) → s.releasable b = false → s.store.state = .resetting →
        s.store.resetPhase = some .drain → ∃ t, exec .arbiterGrant s = .next t
          ∧ t = { s with
              store := { s.store with
                queue := [], episode := t.store.episode, resetPhase := some .noteWrite, pendingOp := none },
              bank := { s.bank with areaWrites := s.bank.areaWrites ++
                [{ note := some (some { oldEpoch := s.store.epoch, newEpoch := s.bank.currentEpoch,
                                        oldLast := s.store.newest, oldChain := s.store.newestChain }) }] } }
          ∧ (s.store.queue = [] → t.store.episode = s.store.episode)
          ∧ (s.store.queue ≠ [] → ∃ e, t.store.episode = some e ∧ e.lastClock = s.clock
            ∧ e.lastElapsed = s.monitor.elapsed ∧ e.start = (s.store.episode.map (·.start)).getD s.now
            ∧ e.counts = s.store.queue.foldl (fun c x => c.add x.record)
                ((s.store.episode.map (·.counts)).getD HeldCounts.zero)))
      ∧ (∀ b, s.store.pendingOp = some (.resetErase b) → exec .arbiterGrant s = .next { s with store := { s.store with
          inFlight := some (.resetErase b), pendingOp := none } })
      ∧ (∀ r, s.store.pendingOp = some .epochWrite → s.store.resetPhase = some (.epochWrite r) →
        let chain := chainOf 0 ((Record.epoch r).bytes 1 0)
        exec .arbiterGrant s = .next { s with store := { s.store with
          inFlight := some (.epochWrite ((Record.epoch r).bytes 1 chain) chain), pendingOp := none } })))
    ∧ ∀ (t : Store) (first count : Nat),
      let reply := t.readReply first count
      (t.oldest = none → reply = (if first ≤ t.newest then 4 + 8 else 8, []))
      ∧ ∀ oldest, t.oldest = some oldest →
        let start := max first oldest
        (oldest ≤ first → t.newest + t.queue.length < first → reply = (0, []))
        ∧ ((first < oldest ∨ first ≤ t.newest + t.queue.length) →
          reply.1 = (if first < oldest then 4 else 0) ∧ ∃ item : Nat → Option (List Byte),
            reply.2 = (List.range count).filterMap (fun i => item (start + i))
            ∧ ∀ n, start ≤ n → n < start + count →
              (∀ bytes, item n = some bytes →
                (n ≤ t.newest ∧ ∃ u ∈ t.blocks, ∃ c, Memory.candidate t.array u.block = some c
                  ∧ ∃ x ∈ c.records, x.number = n ∧ bytes = 0 :: x.bytes)
                ∨ (t.newest < n ∧ ∃ e ∈ t.queue, e.number = n ∧ bytes = 1 :: e.record.bytes n 0))
              ∧ (n ≤ t.newest → ∀ u ∈ t.blocks, u.first ≤ n → n ≤ u.last → ∀ c, Memory.candidate t.array u.block = some c →
                (∃ x ∈ c.records, x.number = n) → item n ≠ none)
              ∧ (t.newest < n → (∃ e ∈ t.queue, e.number = n) → item n ≠ none))

/-- An erase that makes room starts only on a released block; the pending operation is the one the store asks for
(R102, R106, R107, R109, R110, R113, R114, R115, R117, R118). A command that puts the erase of a block for a record in
flight found the block releasable, or found a restart under way, whose abandoned scan may leave the erase of a damaged
block in flight (log 9); one that puts an erase of an epoch reset in flight is the arbiter's grant and found that
erase pending, in RUN; and a command other than a completion at the array, the end of a restart scan, or one that can
cut an operation short leaves every byte of the array as it read before. A block is releasable exactly when it is
BLANK in the block table or each of its records lies at or below both marks, or, with the clock SET, has a clock end
time earlier than the retention age allows. With nothing in flight and the scan done, the pending operation in NORMAL,
and in the drain of a reset, is none for an empty queue, the head's WRITE where it fits, else a PAD FILL while slots
are left, else the ERASE of the next block when it is USED, and else the WRITE; in HELD it is none; in a reset it is
the next erase or the EPOCH write; and a pending operation that is the one asked for stays so at every command. -/
def Obligations.RoomIsMadeOnlyOnReleasedBlocks : Prop :=
  (∀ (i : Instr) (s t : State), exec i s = .next t →
    (∀ b, t.store.inFlight = some (.eraseBlock b) → s.store.inFlight ≠ some (.eraseBlock b) →
      s.releasable b = true ∨ (s.monitor.state = .restarting ∧ s.monitor.restart.isSome = true))
    ∧ (∀ b, t.store.inFlight = some (.resetErase b) → s.store.inFlight ≠ some (.resetErase b) →
      i = .arbiterGrant ∧ s.monitor.state = .run ∧ s.store.pendingOp = some (.resetErase b))
    ∧ (touchesArray i = false → ∀ a, Memory.read t.store.array a = Memory.read s.store.array a)
    ∧ (s.store.pendingOp = s.store.dueOp → t.store.pendingOp = t.store.dueOp))
    ∧ (∀ (s : State) (b : Nat), s.releasable b = true ↔
      ((∀ u ∈ s.store.blocks, u.block ≠ b)
        ∨ ∀ c, Memory.candidate s.store.array b = some c → ∀ r ∈ c.records,
            (r.number ≤ s.operator.mark ∧ r.number ≤ s.consumer.mark)
            ∨ (s.monitor.quality = .set
              ∧ (r.clockEnd : Int) < (s.clock : Int) - (s.bank.inForce.retentionDays : Int) * 86400000)))
    ∧ ∀ (t : Store),
      let ahead := (t.wpBlock + 1) % 1024
      let working : Prop := t.state = .normal ∨ (t.state = .resetting ∧ t.resetPhase = some .drain)
      ((t.scanned = false ∨ t.inFlight.isSome = true ∨ t.state = .held ∨ (working ∧ t.queue = [])
        ∨ (t.state = .resetting ∧ t.resetPhase = some .noteWrite)) → t.dueOp = none)
      ∧ (t.scanned = true → t.inFlight = none →
        (working → ∀ e rest, t.queue = e :: rest →
          t.dueOp = some (if t.wpSlot + e.record.slots ≤ 128 then .writeHead
            else if t.wpSlot < 128 then .padFill
            else if t.blocks.any (fun u => u.block == ahead) then .eraseBlock ahead
            else .writeHead))
        ∧ (t.state = .resetting → (∀ note next, t.resetPhase = some (.erasing note next) → t.dueOp = some (.resetErase next))
          ∧ ∀ r, t.resetPhase = some (.epochWrite r) → t.dueOp = some .epochWrite))

/-- A completed write commits the queue head, stores its bytes at the write position, and ends an emptied drain (R106,
R102, R113, R116, R122, R169). In RUN or HOLDUP with the write of the queue head in flight and a canonical array,
RECORD_WRITE_COMPLETE answers next: newest committed and its chain value are the head's, the head has left the queue,
the write position is past its slots, oldest stored is kept or takes the number, the written bytes read back from the
write position on and every other byte of the array as before, and both lines are judged afresh. In the block table
the block written has the number as its last and keeps its first, or enters with the number as both when it was BLANK,
and every other entry stands. In RUN nothing is in flight after it, and when the queue is empty in the drain of a
reset the reset note, of the old epoch, the current epoch number, the number and its chain value, is handed to the
area behind the writes that wait there. In HOLDUP, with the scan done and not RESETTING, the next head's write starts
where it fits in the slots left, its chain value computed after this one's; otherwise nothing starts. A drain emptied
in HOLDUP hands nothing over there, the model's choice (log 48). Nothing else changes but the pending operation. -/
def Obligations.RecordWriteCommits : Prop :=
  ∀ (s : State) (e : Entry) (rest : List Entry) (bytes : List Byte) (chain : Chain),
    (s.monitor.state = .run ∨ s.monitor.state = .holdup) →
    s.store.inFlight = some (.recordWrite bytes chain) → s.store.queue = e :: rest → Memory.wf s.store.array = true →
    let slot := s.store.wpSlot + bytes.length / 32
    let drained : Prop := s.monitor.state = .run ∧ s.store.state = .resetting ∧ s.store.resetPhase = some .drain ∧ rest = []
    let goesOn : Prop := s.monitor.state = .holdup ∧ s.store.scanned = true ∧ s.store.state ≠ .resetting
    ∃ t, exec .recordWriteComplete s = .next t
      ∧ t.store.newest = e.number ∧ t.store.newestChain = chain ∧ t.store.queue = rest
      ∧ t.store.wpBlock = s.store.wpBlock ∧ t.store.wpSlot = slot
      ∧ t.store.oldest = some (s.store.oldest.getD e.number)
      ∧ ((∃ u ∈ s.store.blocks, u.block = s.store.wpBlock) → t.store.blocks =
          s.store.blocks.map fun u => if u.block = s.store.wpBlock then { u with last := e.number } else u)
      ∧ ((∀ u ∈ s.store.blocks, u.block ≠ s.store.wpBlock) → t.store.blocks =
          s.store.blocks ++ [{ block := s.store.wpBlock, first := e.number, last := e.number }])
      ∧ (drained → t.store.resetPhase = some .noteWrite ∧ t.bank.areaWrites = s.bank.areaWrites ++
          [{ note := some (some { oldEpoch := s.store.epoch, newEpoch := s.bank.currentEpoch,
                                  oldLast := e.number, oldChain := chain }) }])
      ∧ (¬ drained → t.store.resetPhase = s.store.resetPhase ∧ t.bank.areaWrites = s.bank.areaWrites)
      ∧ (∀ n more, goesOn → rest = n :: more → slot + n.record.slots ≤ 128 →
          let next := chainOf chain (n.record.bytes n.number 0)
          t.store.inFlight = some (.recordWrite (n.record.bytes n.number next) next))
      ∧ ((goesOn → ∀ n more, rest = n :: more → 128 < slot + n.record.slots) → t.store.inFlight = none)
      ∧ (∀ a, Memory.read t.store.array a =
          let start := s.store.wpBlock * 4096 + s.store.wpSlot * 32
          if start ≤ a ∧ a < start + bytes.length then bytes.getD (a - start) 0 else Memory.read s.store.array a)
      ∧ t.lineSound .operator ∧ t.lineSound .consumer
      ∧ t = { s with
          store := { s.store with
            newest := t.store.newest, newestChain := t.store.newestChain, queue := t.store.queue,
            inFlight := t.store.inFlight, wpSlot := t.store.wpSlot, oldest := t.store.oldest, blocks := t.store.blocks,
            array := t.store.array, resetPhase := t.store.resetPhase, pendingOp := t.store.pendingOp },
          bank := { s.bank with areaWrites := t.bank.areaWrites },
          operator := { s.operator with attention := t.operator.attention },
          consumer := { s.consumer with attention := t.consumer.attention } }

/-- Completed PAD fills and erases leave PAD markers and blank blocks, and nothing else changed in the array (R106,
R109, R114, R115). In RUN, with a queue entry left in a drain, and a canonical array: PAD_FILL_COMPLETE leaves 0x00
from the write position to the end of its block and the write position at the block's end; ERASE_COMPLETE leaves the
block blank, not in the block table, the write position at its first slot and oldest stored the first of the next USED
block; RESET_ERASE_COMPLETE leaves the block blank, and the next block due, or after block 1,023 the EPOCH record made
at this moment. Every other byte of the array reads as before. -/
def Obligations.FillsAndErasesComplete : Prop :=
  ∀ (s : State), s.monitor.state = .run → (s.store.resetPhase = some .drain → s.store.queue ≠ []) → Memory.wf s.store.array = true →
    let others : State → Prop := fun t => t = { s with
      store := { s.store with
        array := t.store.array, blocks := t.store.blocks, wpBlock := t.store.wpBlock, wpSlot := t.store.wpSlot,
        oldest := t.store.oldest, resetPhase := t.store.resetPhase, inFlight := none, pendingOp := t.store.pendingOp },
      operator := { s.operator with attention := t.operator.attention },
      consumer := { s.consumer with attention := t.consumer.attention } }
    (s.store.inFlight = some .padFill → s.store.wpSlot ≤ 128 → ∃ t, exec .padFillComplete s = .next t ∧ others t
      ∧ t.store.wpSlot = 128 ∧ t.store.wpBlock = s.store.wpBlock ∧ t.store.blocks = s.store.blocks
      ∧ t.store.oldest = s.store.oldest ∧ t.store.resetPhase = s.store.resetPhase
      ∧ ∀ a, Memory.read t.store.array a =
          if s.store.wpBlock * 4096 + s.store.wpSlot * 32 ≤ a ∧ a < (s.store.wpBlock + 1) * 4096 then 0
          else Memory.read s.store.array a)
    ∧ (∀ b, s.store.inFlight = some (.eraseBlock b) → ∃ t, exec .eraseComplete s = .next t ∧ others t
      ∧ t.store.wpBlock = b ∧ t.store.wpSlot = 0 ∧ t.store.resetPhase = s.store.resetPhase
      ∧ (∀ u ∈ t.store.blocks, u.block ≠ b) ∧ (∀ u ∈ s.store.blocks, u.block ≠ b → u ∈ t.store.blocks)
      ∧ (t.store.blocks = [] → t.store.oldest = none)
      ∧ (t.store.blocks ≠ [] → ∃ u ∈ t.store.blocks, t.store.oldest = some u.first
          ∧ ∀ w ∈ t.store.blocks, (u.block + 1023 - b) % 1024 ≤ (w.block + 1023 - b) % 1024)
      ∧ ∀ a, Memory.read t.store.array a =
          if b * 4096 ≤ a ∧ a < (b + 1) * 4096 then 0xFF else Memory.read s.store.array a)
    ∧ (∀ b note next, s.store.inFlight = some (.resetErase b) → s.store.resetPhase = some (.erasing note next) →
      ∃ t, exec .resetEraseComplete s = .next t ∧ others t ∧ t.store.oldest = s.store.oldest ∧ (∀ u ∈ t.store.blocks, u.block ≠ b)
      ∧ t.store.resetPhase = (if b < 1023 then some (.erasing note (b + 1))
          else some (.epochWrite { stamp := s.now, note := note }))
      ∧ ∀ a, Memory.read t.store.array a =
          if b * 4096 ≤ a ∧ a < (b + 1) * 4096 then 0xFF else Memory.read s.store.array a)

/-- The end of an epoch reset opens the new epoch everywhere at once (R115, R83, R163). In RUN with the EPOCH record's
write in flight, EPOCH_WRITE_COMPLETE answers next: newest committed is 1 with its chain value and oldest stored is 1,
the epoch is the one entered, the store is NORMAL, the reset note and the reset mark are gone from the area, both
marks are 0, every cell of the matrix is 0, the record stands at slot 0 of block 0 with the write position after it, a
block 0 that was BLANK enters the block table with number 1, the queue, the episode and the settings in force are
kept, and both lines are judged afresh. That the note and the mark leave the area with no write of its own is deduced
(log 17). -/
def Obligations.EpochWriteEndsReset : Prop :=
  ∀ (s : State) (bytes : List Byte) (chain : Chain) (r : EpochRecord), s.monitor.state = .run →
    s.store.inFlight = some (.epochWrite bytes chain) → s.store.resetPhase = some (.epochWrite r) →
    Memory.wf s.store.array = true → ∃ t, exec .epochWriteComplete s = .next t
      ∧ t.store.newest = 1 ∧ t.store.newestChain = chain ∧ t.store.oldest = some 1 ∧ t.store.epoch = r.note.newEpoch
      ∧ t.store.state = .normal ∧ t.store.resetPhase = none ∧ t.store.inFlight = none
      ∧ t.store.wpBlock = 0 ∧ t.store.wpSlot = 1 ∧ t.bank.area.note = none ∧ t.bank.area.resetMark = false
      ∧ t.operator.mark = 0 ∧ t.consumer.mark = 0 ∧ t.matrix = List.replicate 31 0
      ∧ t = { s with
          store := { s.store with
            array := t.store.array, newest := 1, newestChain := chain, oldest := some 1, epoch := r.note.newEpoch,
            state := .normal, resetPhase := none, releaseCheck := none, inFlight := none, blocks := t.store.blocks,
            wpBlock := 0, wpSlot := 1, pendingOp := t.store.pendingOp },
          bank := { s.bank with area := { s.bank.area with note := none, resetMark := false } },
          matrix := t.matrix,
          operator := { s.operator with mark := 0, attention := t.operator.attention },
          consumer := { s.consumer with mark := 0, attention := t.consumer.attention } }
      ∧ ((∀ u ∈ s.store.blocks, u.block ≠ 0) → t.store.blocks = s.store.blocks ++ [{ block := 0, first := 1, last := 1 }])
      ∧ (∀ a, Memory.read t.store.array a =
          if a < bytes.length then bytes.getD a 0 else Memory.read s.store.array a)
      ∧ t.lineSound .operator ∧ t.lineSound .consumer

/-- A write of the settings area replaces the fields it names whole and leaves the others (R140, R113, R114). With
writes of the area outstanding, AREA_WRITE_COMPLETE answers next: the first is complete, each field it names has its
new value and each other field stands, the later writes wait, and the settings in force and the slots are unchanged;
when it placed the reset note that ends the drain, the erase phase begins at block 0 and oldest stored is absent. -/
def Obligations.AreaWriteReplacesNamedFields : Prop :=
  ∀ (s : State) (w : AreaWrite) (rest : List AreaWrite), s.bank.areaWrites = w :: rest →
    ∃ t, exec .areaWriteComplete s = .next t ∧ t.bank.areaWrites = rest
      ∧ t = { s with
          bank := { s.bank with area := t.bank.area, areaWrites := rest },
          store := { s.store with
            resetPhase := t.store.resetPhase, oldest := t.store.oldest, pendingOp := t.store.pendingOp },
          operator := { s.operator with attention := t.operator.attention },
          consumer := { s.consumer with attention := t.consumer.attention } }
      ∧ (∀ x, w.values = some x → t.bank.area.values = x) ∧ (w.values = none → t.bank.area.values = s.bank.area.values)
      ∧ (∀ x, w.epoch = some x → t.bank.area.epoch = x) ∧ (w.epoch = none → t.bank.area.epoch = s.bank.area.epoch)
      ∧ (∀ x, w.lastChange = some x → t.bank.area.lastChange = x)
      ∧ (w.lastChange = none → t.bank.area.lastChange = s.bank.area.lastChange)
      ∧ (∀ x, w.lastApplied = some x → t.bank.area.lastApplied = x)
      ∧ (w.lastApplied = none → t.bank.area.lastApplied = s.bank.area.lastApplied)
      ∧ (∀ x, w.strap = some x → t.bank.area.strap = some x) ∧ (w.strap = none → t.bank.area.strap = s.bank.area.strap)
      ∧ (∀ x, w.note = some x → t.bank.area.note = x) ∧ (w.note = none → t.bank.area.note = s.bank.area.note)
      ∧ (∀ x, w.resetMark = some x → t.bank.area.resetMark = x)
      ∧ (w.resetMark = none → t.bank.area.resetMark = s.bank.area.resetMark)
      ∧ (∀ note, w.note = some (some note) → s.store.resetPhase = some .noteWrite →
          t.store.resetPhase = some (.erasing note 0) ∧ t.store.oldest = none)
      ∧ (w.note = none → t.store.resetPhase = s.store.resetPhase ∧ t.store.oldest = s.store.oldest)

/-- A FLUSH wait ends at its target, in HELD, or with no entry left to wait for (R158, R168). In RUN with a FLUSH in
process on a port: once newest committed is at the target or beyond, the store is HELD, or no queue entry is at or
below the target, FLUSH_COMPLETE answers next with the reply READY, status OK, carrying the target and newest
committed, HELD flagged when the store is HELD, and both marks copied and cleared; nothing else changes. Before that
it changes nothing. That the answer is a command of its own is the model's choice (log 14), and so is that it changes
nothing before it is due (log 1). -/
def Obligations.FlushWaitEnds : Prop :=
  ∀ (s : State) (p : Port) (tag : Byte) (target : Nat), s.monitor.state = .run →
    (s.port p).inProcess = some (.flush tag target) →
    let ended := target ≤ s.store.newest ∨ s.store.state = .held ∨ ∀ e ∈ s.store.queue, target < e.number
    (ended → exec (.flushComplete p) s = .next (s.setPort p
      { s.port p with
        inProcess := none, replyState := .ready, overrun := false, abandoned := false,
        reply := replyFrame p 11 tag .ok
          (replyFlags (s.port p).overrun (s.port p).abandoned (if s.store.state = .held then 32 else 0))
          (leBytes 4 target ++ leBytes 4 s.store.newest) }))
    ∧ (¬ ended → exec (.flushComplete p) s = .next s)

/-- The burst, proposals and the release check act at their times (R74, R76, R77, R78, R82, R110, R145, R169). In RUN,
with the timer RUNNING and its expiry time reached, BURST_EXPIRY answers next: one member becomes a REDUCTION record
and 2 or more become one BURST of them; the builder is EMPTY with its timer STOPPED, the record's cell of the matrix
goes up by one, the record is taken by the store, and nothing else changes. Before the expiry time, or with the timer
STOPPED, nothing changes. A boundary in RUN whose time lies after the expiry time finds the burst expired (log 30).
PROPOSAL_EXPIRY with the port's slot holding a proposal whose expiry time elapsed time has reached answers next with
that slot empty, the other slot as it was, and both lines judged afresh; with the time not reached it changes nothing.
In RUN with the store HELD and its check time reached, RELEASE_CHECK answers next: when the blocked block is
releasable the store is NORMAL with no check time, and otherwise HELD with the check 60,000 ms later; the queue and
the array are unchanged. That a command before its time changes nothing is the model's choice (log 1), and so is that
one may come late (log 30). -/
def Obligations.TimersAct : Prop :=
  ∀ (s : State),
    (s.monitor.state = .run →
      (∀ e first rest, s.builder.timer = some e → s.builder.members = first :: rest →
        let r := if rest = [] then Record.reduction first else Record.burst (first :: rest)
        let expired : State := { s with
          builder := { members := [], timer := none }, matrix := countRecord s.matrix r,
          store := (s.store.take s.now r).settle }
        (e ≤ s.monitor.elapsed → exec .burstExpiry s = .next expired)
        ∧ (∀ n, e < s.tracker.setElapsed → s.placeBoundary n = expired.placeBoundary n))
      ∧ ((∀ e, s.builder.timer = some e → s.monitor.elapsed < e) → exec .burstExpiry s = .next s))
    ∧ (∀ p proposal, s.bank.slot p = some proposal →
      (proposal.expiry ≤ s.monitor.elapsed → ∃ t, exec (.proposalExpiry p) s = .next t
        ∧ t.bank.slot p = none ∧ t.bank.slot p.other = s.bank.slot p.other
        ∧ t.lineSound .operator ∧ t.lineSound .consumer
        ∧ t = { s with
            bank := s.bank.setSlot p none, store := { s.store with pendingOp := t.store.pendingOp },
            operator := { s.operator with attention := t.operator.attention },
            consumer := { s.consumer with attention := t.consumer.attention } })
      ∧ (s.monitor.elapsed < proposal.expiry → exec (.proposalExpiry p) s = .next s))
    ∧ (∀ check, s.monitor.state = .run → s.store.state = .held → s.store.releaseCheck = some check →
      (check ≤ s.monitor.elapsed → ∃ t, exec .releaseCheck s = .next t
        ∧ t = { s with
            store := { s.store with
              state := t.store.state, releaseCheck := t.store.releaseCheck, pendingOp := t.store.pendingOp },
            operator := { s.operator with attention := t.operator.attention },
            consumer := { s.consumer with attention := t.consumer.attention } }
        ∧ t.lineSound .operator ∧ t.lineSound .consumer
        ∧ (s.releasable ((s.store.wpBlock + 1) % 1024) = true → t.store.state = .normal ∧ t.store.releaseCheck = none)
        ∧ (s.releasable ((s.store.wpBlock + 1) % 1024) = false →
            t.store.state = .held ∧ t.store.releaseCheck = some (check + 60000)))
      ∧ (s.monitor.elapsed < check → exec .releaseCheck s = .next s))

/-- A tick adds one to elapsed time in every state, and the lines start and cancel the steadiness wait (R123, R130,
R132, 08_clock_supply_loss_and_restart.md 8.3). Clock time is the elapsed count plus the offset, while that is not
below 0. ELAPSED_TICK answers next with the elapsed count one higher and nothing else changed, in every monitor state,
while the counter runs, the count is below its greatest value and clock time stays in its range; with the counter
stopped it changes nothing. SUPPLY_GOOD_RISE with the line low raises it and, in HOLDUP or RETAIN, starts a wait of 50
ms; with the line high it changes nothing. SUPPLY_GOOD_FALL with the line high in HOLDUP or RETAIN lowers it and
cancels the wait. RETENTION_LOSS in RETAIN clears the retention-valid flag and stops the counter, and in any other
state changes nothing. POWER_UP answers next in RETAIN with the flag clear, the line low, no wait, and the settings in
force, the area and the matrix as they were. That a stopped counter and a power-up outside RETAIN behave so is the
model's choice (log 25, log 26); that the fall cancels the wait in HOLDUP too is deduced (log 24); that a line which
is already high does not rise, and that a loss outside RETAIN changes nothing, is the model's choice (log 1). -/
def Obligations.TicksAndLinesInEveryState : Prop :=
  ∀ (s : State),
    (0 ≤ (s.monitor.elapsed : Int) + s.monitor.offset → (s.clock : Int) = s.monitor.elapsed + s.monitor.offset)
    ∧ (s.monitor.counterStopped = false → s.monitor.elapsed < max48 → 0 ≤ (s.monitor.elapsed : Int) + 1 + s.monitor.offset →
      (s.monitor.elapsed : Int) + 1 + s.monitor.offset ≤ max48 →
      exec .elapsedTick s = .next { s with monitor := { s.monitor with elapsed := s.monitor.elapsed + 1 } })
    ∧ (s.monitor.counterStopped = true → exec .elapsedTick s = .next s)
    ∧ (s.monitor.supplyGood = false → exec .supplyGoodRise s = .next { s with monitor := { s.monitor with
        supplyGood := true,
        waitEnd := if s.monitor.state = .holdup ∨ s.monitor.state = .retain then some (s.monitor.elapsed + 50)
          else s.monitor.waitEnd } })
    ∧ (s.monitor.supplyGood = true → exec .supplyGoodRise s = .next s)
    ∧ (s.monitor.supplyGood = true → (s.monitor.state = .holdup ∨ s.monitor.state = .retain) →
      exec .supplyGoodFall s = .next { s with monitor := { s.monitor with supplyGood := false, waitEnd := none } })
    ∧ (s.monitor.state = .retain → exec .retentionLoss s = .next { s with monitor := { s.monitor with
        retentionValid := false, counterStopped := true } })
    ∧ (s.monitor.state ≠ .retain → exec .retentionLoss s = .next s)
    ∧ (∃ t, exec .powerUp s = .next t ∧ t.monitor.state = .retain ∧ t.monitor.retentionValid = false
      ∧ t.monitor.supplyGood = false ∧ t.monitor.waitEnd = none ∧ t.monitor.restart = none
      ∧ t.monitor.elapsed = s.monitor.elapsed ∧ t.monitor.offset = s.monitor.offset
      ∧ t.bank.inForce = s.bank.inForce ∧ t.bank.area = s.bank.area ∧ t.matrix = s.matrix
      ∧ t.store.inFlight = none ∧ t.operator.attention = false ∧ t.consumer.attention = false)

/-- Every command keeps the elapsed counter and clock time in their ranges (R123, R124, R125, R126). If the elapsed
count is at most 281,474,976,710,655 and clock time, the count plus the offset, lies in 0..281,474,976,710,655, and a
command answers next, the same holds after it. At the two ends, where the manual gives no successor, it holds for
every value the part may take (log 5, log 6). -/
def Obligations.ClockStaysInRange : Prop :=
  ∀ (i : Instr) (s t : State), s.clockSound → exec i s = .next t → t.clockSound

/-- A fall of supply-good in RUN or RESTARTING issues the supply-fail warning (R128, R47, R53, R56, R73, R74, R97,
R116, R160). With supply-good high in RUN or RESTARTING, SUPPLY_GOOD_FALL answers next: the monitor is in HOLDUP with
the outage note of the first failure and the holdup-complete mark clear; the reduction context is in SUPPLY_LOST as
R47 gives for each state it was in; the swell and gap contexts are closed; an OPEN interval is FROZEN with cause
SUPPLY; both ports hold no request and no reply, with their lines released and their marks and notify levels kept; the
settings, the receiver, the tracker, the engine and the ring are unchanged. An overdue burst in RUN, or 8 members as a
reduction opens, become one record, counted and taken, and the builder is EMPTY. An open swell becomes a SWELL record
ended by supply loss, counted and taken, and an open gap a GAP record (each clause with the others idle). With no
record to finalize the builder's members, the matrix and the queue are unchanged, and with the array idle in RUN and
the head fitting in the current block its write starts. That the overdue expiry comes first is log 30, that the write
starts at the warning itself log 15, and the ring a reset leaves log 36. That a record handed over in RESTARTING
before the scan is taken by the store state, episode and newest committed kept from before it is the model's choice
(log 45). -/
def Obligations.WarningIssued : Prop :=
  ∀ (s : State), s.monitor.supplyGood = true → (s.monitor.state = .run ∨ s.monitor.state = .restarting) →
    ∃ t, exec .supplyGoodFall s = .next t
      ∧ t.monitor = { s.monitor with
          state := .holdup, outageNote := some (s.monitor.outageNote.getD s.now), holdupComplete := false, restart := none,
          supplyGood := false, waitEnd := none }
      ∧ (∃ r, t.reduction = some r ∧ r.state = .supplyLost
        ∧ (s.reduction = none → r.start = s.now ∧ r.phases = s.considered ∧ r.residual = 0 ∧ r.residualPhase = .a
          ∧ r.interruption = some { first := s.monitor.elapsed, last := none, entries := 1 }
          ∧ r.startedAtLoss = true ∧ r.spannedLoss = true ∧ r.dir.ref = referencesOf s.estimator.ring)
        ∧ (∀ x, s.reduction = some x → x.state = .supplyLost → r = x)
        ∧ (∀ x, s.reduction = some x → x.state ≠ .supplyLost → r = { x with
            state := .supplyLost, phases := x.phases.union s.considered, residual := 0, spannedLoss := true,
            residualPhase := if 0 < x.residual then .a else x.residualPhase,
            interruption := if x.state = .interrupted then x.interruption else
              match x.interruption with
              | none => some { first := s.monitor.elapsed, last := none, entries := 1 }
              | some part => some { part with entries := min 65535 (part.entries + 1) } }))
      ∧ t.swell = none ∧ t.gap = { opened := none, runCount := 0, runStart := none }
      ∧ (∀ i, s.aggregator.interval = some i → s.aggregator.freeze = none → t.aggregator = { s.aggregator with
          interval := some { i with flags := { i.flags with supplyLost := true, eventOverlap := true } },
          freeze := some { clock := s.clock, elapsed := s.monitor.elapsed, cause := .supply } })
      ∧ (∀ p, t.port p = { s.port p with
          inProcess := none, reply := [], replyState := .none, overrun := false, abandoned := false, attention := false,
          requestBuffer := [], period := (s.port p).period.map fun _ => .ignored })
      ∧ t.bank = s.bank ∧ t.link = s.link ∧ t.tracker = s.tracker ∧ t.engine = s.engine ∧ t.estimator = s.estimator
      ∧ t.store.newest = s.store.newest ∧ t.store.epoch = s.store.epoch
      ∧ (s.monitor.state = .run → t.store.array = s.store.array)
      ∧ (let overdue : Prop := s.monitor.state = .run ∧ ∃ e, s.builder.timer = some e ∧ e < s.monitor.elapsed
         let full : Prop := s.reduction = none ∧ 8 ≤ s.builder.members.length
         (s.swell = none → s.gap.opened = none → (overdue ∨ full) → ∀ first rest, s.builder.members = first :: rest →
            let r := if rest = [] then Record.reduction first else Record.burst (first :: rest)
            t.builder = { members := [], timer := none } ∧ t.matrix = countRecord s.matrix r
              ∧ t.store.queue = (s.store.take s.now r).queue ∧ t.store.episode = (s.store.take s.now r).episode)
         ∧ (¬ overdue → ¬ full → s.gap.opened = none → ∀ w, s.swell = some w →
            let r : Record := .swell
              { start := w.start, closeClock := s.clock, closeElapsed := s.monitor.elapsed,
                duration := min max32 (s.monitor.elapsed - w.start.elapsed),
                saturated := decide (max32 < s.monitor.elapsed - w.start.elapsed), maximum := w.maximum,
                maximumPhase := w.maximumPhase, phases := w.phases, arrangement := s.arrangement,
                clippedInside := w.clippedInside, gapInside := w.gapInside, endedBySupplyLoss := true }
            t.matrix = countRecord s.matrix r ∧ t.store.queue = (s.store.take s.now r).queue
              ∧ t.store.episode = (s.store.take s.now r).episode)
         ∧ (¬ overdue → ¬ full → s.swell = none → ∀ g, s.gap.opened = some g →
            let r : Record := .gap
              { cause := .measurement, startClock := g.start.clock, quality := g.start.quality, endClock := s.clock,
                duration := min max32 (s.monitor.elapsed - g.start.elapsed), windows := g.windows,
                counts := HeldCounts.zero }
            t.matrix = s.matrix ∧ t.store.queue = (s.store.take s.now r).queue
              ∧ t.store.episode = (s.store.take s.now r).episode)
         ∧ (¬ overdue → ¬ full → s.swell = none → s.gap.opened = none →
          t.matrix = s.matrix ∧ t.store.queue = s.store.queue ∧ t.store.episode = s.store.episode
          ∧ t.builder.members = s.builder.members
          ∧ (∀ e rest, s.monitor.state = .run → s.store.scanned = true → s.store.state ≠ .resetting →
              s.store.inFlight = none → s.store.queue = e :: rest → s.store.wpSlot + e.record.slots ≤ 128 →
              ∃ bytes chain, t.store.inFlight = some (.recordWrite bytes chain)
                ∧ chain = chainOf s.store.newestChain (e.record.bytes e.number 0)
                ∧ bytes = e.record.bytes e.number chain)))

/-- The holdup ends when the store has finished, or torn when the supply collapses first (R116, R129, R140). In
HOLDUP: with no operation in flight, the scan done, the store NORMAL with no episode and the queue empty or its head
not fitting, STORE_HOLDUP_DONE answers next in RETAIN with the holdup-complete mark set and the writes of the area
complete; with an operation in flight it changes nothing. SUPPLY_COLLAPSE answers next in RETAIN with the mark clear
and the outstanding writes of the area lost; a record write in flight leaves every byte outside its slots as it read
before, and the queue and newest committed as they were. In any other state both change nothing. How the area's writes
end is the model's reading (log 16), that a torn write leaves the bytes outside its slots its choice (log 8), and so
is that a command that is not due changes nothing (log 1). -/
def Obligations.HoldupEnds : Prop :=
  ∀ (s : State),
    (s.monitor.state = .holdup → s.store.inFlight = none → s.store.scanned = true → s.store.state = .normal →
      s.store.episode = none → (∀ e rest, s.store.queue = e :: rest → 128 < s.store.wpSlot + e.record.slots) →
      exec .storeHoldupDone s = .next { s with
        bank := { s.bank with area := s.bank.areaWrites.foldl Area.apply s.bank.area, areaWrites := [] },
        monitor := { s.monitor with state := .retain, holdupComplete := true },
        store := { s.store with scanned := false, pendingOp := none },
        operator := { s.operator with attention := false }, consumer := { s.consumer with attention := false } })
    ∧ (s.monitor.state = .holdup → s.store.inFlight.isSome = true → exec .storeHoldupDone s = .next s)
    ∧ (s.monitor.state = .holdup → s.store.inFlight = none → exec .supplyCollapse s = .next { s with
        bank := { s.bank with areaWrites := [] },
        monitor := { s.monitor with state := .retain, holdupComplete := false },
        store := { s.store with scanned := false, pendingOp := none },
        operator := { s.operator with attention := false }, consumer := { s.consumer with attention := false } })
    ∧ (∀ bytes chain, s.monitor.state = .holdup → s.store.inFlight = some (.recordWrite bytes chain) →
      bytes.length % 32 = 0 → Memory.wf s.store.array = true → ∃ t, exec .supplyCollapse s = .next t
        ∧ t.monitor = { s.monitor with state := .retain, holdupComplete := false }
        ∧ t.store.inFlight = none ∧ t.store.queue = s.store.queue ∧ t.store.newest = s.store.newest
        ∧ t.store.episode = s.store.episode ∧ t.bank = { s.bank with areaWrites := [] }
        ∧ ∀ a, let start := s.store.wpBlock * 4096 + s.store.wpSlot * 32
            (a < start ∨ start + bytes.length ≤ a) → Memory.read t.store.array a = Memory.read s.store.array a)
    ∧ (s.monitor.state ≠ .holdup → exec .storeHoldupDone s = .next s ∧ exec .supplyCollapse s = .next s)

/-- A completed wait or a release of the line begins a restart of the kind R133 gives (R130, R131, R132, R133, R134,
R135, R16). In RETAIN with supply-good high, the reset line high and the wait's end reached, STEADINESS_WAIT_DONE
answers next with a restart under way, WARM with the retention-valid flag set and COLD with it clear. RESET_RELEASE
with the line low and the part held by it answers next with a restart, LINE or COLD. In both the strap is sampled: the
tracker's nominal cycle is 192 sets for a low strap and 160 for a high one, a change against the area is noted, and
the area is handed the new value. A WARM or LINE restart keeps all of retention memory; a COLD one starts time from 0,
UNSET, with the contexts IDLE, the builder, the aggregator, the queue and the episode empty, the outage note absent
and both notify levels 1. RESET_RELEASE in RETAIN with the wait over begins a restart too, WARM or COLD as the flag
gives (log 22); in any other state it only raises the line. With the wait not over, or the line low,
STEADINESS_WAIT_DONE changes nothing. The strap as an operand is log 23, the commands that change nothing log 1. -/
def Obligations.RestartBegins : Prop :=
  ∀ (strap : Bool) (s : State),
    let begun : RestartKind → State → Prop := fun kind t =>
      t.monitor.state = .restarting ∧ t.monitor.restart = some kind ∧ t.monitor.waitEnd = none
        ∧ t.monitor.strap60 = strap ∧ t.monitor.strapChanged = (s.bank.areaAhead.strap == some (! strap))
        ∧ t.tracker = { s.tracker with nominal := if strap then 160 else 192 }
        ∧ t.bank = { s.bank with areaWrites := s.bank.areaWrites ++ [{ strap := some strap }] }
        ∧ t.monitor.resetHigh = true ∧ t.monitor.retentionValid = s.monitor.retentionValid
        ∧ t.store.array = s.store.array ∧ t.matrix = s.matrix ∧ t.link = s.link ∧ t.engine = s.engine
        ∧ t.estimator = s.estimator ∧ t.store.newest = s.store.newest ∧ t.store.epoch = s.store.epoch
        ∧ t.operator = { s.operator with notify := t.operator.notify, attention := false }
        ∧ t.consumer = { s.consumer with notify := t.consumer.notify, attention := false }
        ∧ (kind ≠ .cold →
          t.reduction = s.reduction ∧ t.swell = s.swell ∧ t.gap = s.gap ∧ t.builder = s.builder
            ∧ t.aggregator = s.aggregator ∧ t.store.queue = s.store.queue ∧ t.store.episode = s.store.episode
            ∧ t.operator.notify = s.operator.notify ∧ t.consumer.notify = s.consumer.notify
            ∧ t.monitor.elapsed = s.monitor.elapsed ∧ t.monitor.offset = s.monitor.offset
            ∧ t.monitor.quality = s.monitor.quality ∧ t.monitor.smallStepUsed = s.monitor.smallStepUsed
            ∧ t.monitor.outageNote = s.monitor.outageNote ∧ t.monitor.holdupComplete = s.monitor.holdupComplete)
        ∧ (kind = .cold →
          t.reduction = none ∧ t.swell = none ∧ t.gap = { opened := none, runCount := 0, runStart := none }
            ∧ t.builder = { members := [], timer := none } ∧ t.aggregator.interval = none ∧ t.aggregator.freeze = none
            ∧ t.store.queue = [] ∧ t.store.episode = none ∧ t.operator.notify = 1 ∧ t.consumer.notify = 1
            ∧ t.monitor.elapsed = 0 ∧ t.monitor.offset = 0 ∧ t.monitor.quality = .unset
            ∧ t.monitor.smallStepUsed = false ∧ t.monitor.outageNote = none ∧ t.monitor.holdupComplete = false)
    (∀ w, s.monitor.state = .retain → s.monitor.supplyGood = true → s.monitor.resetHigh = true →
      s.monitor.waitEnd = some w → w ≤ s.monitor.elapsed →
      ∃ t, exec (.steadinessWaitDone strap) s = .next t ∧ begun (if s.monitor.retentionValid then .warm else .cold) t)
    ∧ ((s.monitor.state ≠ .retain ∨ s.monitor.supplyGood = false ∨ s.monitor.resetHigh = false ∨ s.monitor.waitEnd = none
        ∨ (s.monitor.counterStopped = false ∧ ∃ w, s.monitor.waitEnd = some w ∧ s.monitor.elapsed < w)) →
      exec (.steadinessWaitDone strap) s = .next s)
    ∧ (s.monitor.resetHigh = false → s.monitor.state = .restarting → s.monitor.restart = none →
      ∃ t, exec (.resetRelease strap) s = .next t ∧ begun (if s.monitor.retentionValid then .line else .cold) t)
    ∧ (∀ w, s.monitor.resetHigh = false → s.monitor.state = .retain → s.monitor.supplyGood = true →
      s.monitor.waitEnd = some w → w ≤ s.monitor.elapsed →
      ∃ t, exec (.resetRelease strap) s = .next t ∧ begun (if s.monitor.retentionValid then .warm else .cold) t)
    ∧ (s.monitor.resetHigh = false → (s.monitor.state ≠ .restarting ∨ s.monitor.restart.isSome = true) →
      (s.monitor.state ≠ .retain ∨ s.monitor.supplyGood = false ∨ s.monitor.waitEnd = none
        ∨ (s.monitor.counterStopped = false ∧ ∃ w, s.monitor.waitEnd = some w ∧ s.monitor.elapsed < w)) →
      exec (.resetRelease strap) s = .next { s with monitor := { s.monitor with resetHigh := true } })
    ∧ (s.monitor.resetHigh = true → exec (.resetRelease strap) s = .next s)

/-- The reset line holds a running or restarting part and keeps what retention memory keeps (R97, R117, R118, R131,
R160). In RUN, or in RESTARTING with a restart under way, with the line high, RESET_ASSERT answers next: the monitor
is RESTARTING, held by the line, with no restart under way; an OPEN interval is FROZEN with cause RESET and carries
measurement gap inside; the operation in flight is abandoned, and with none in flight in RUN the array is unchanged;
an abandoned scan leaves every byte outside the damaged blocks as it read before, and each damaged block but one
either wholly as it was or blank; both ports hold no request and no reply with their lines released; the contexts, the
builder, the matrix, the queue, the episode, the marks, the notify levels, the clock and the settings in force are
kept. In HOLDUP and RETAIN only the level changes, and with the line low already nothing does. How far an abandoned
scan has come is free (log 9). That the waiting writes of the area are lost is the model's reading (log 16), that the
volatile items keep their values its choice (log 27), and so is that a line already low changes nothing (log 1). -/
def Obligations.ResetHolds : Prop :=
  ∀ (s : State),
    ((s.monitor.state = .run ∨ (s.monitor.state = .restarting ∧ s.monitor.restart.isSome = true)) →
      s.monitor.resetHigh = true → ∃ t, exec .resetAssert s = .next t
      ∧ t.monitor = { s.monitor with state := .restarting, restart := none, resetHigh := false }
      ∧ (∀ i, s.aggregator.interval = some i → s.aggregator.freeze = none → t.aggregator = { s.aggregator with
          interval := some { i with flags := { i.flags with gapInside := true } },
          freeze := some { clock := s.clock, elapsed := s.monitor.elapsed, cause := .reset } })
      ∧ (s.aggregator.interval = none ∨ s.aggregator.freeze.isSome = true → t.aggregator = s.aggregator)
      ∧ t.reduction = s.reduction ∧ t.swell = s.swell ∧ t.gap = s.gap ∧ t.builder = s.builder ∧ t.matrix = s.matrix
      ∧ t.estimator = s.estimator ∧ t.link = s.link ∧ t.tracker = s.tracker ∧ t.engine = s.engine
      ∧ t.bank = { s.bank with areaWrites := [] }
      ∧ t.store = { s.store with array := t.store.array, inFlight := none, scanned := false, pendingOp := none }
      ∧ (s.monitor.state = .run → s.store.inFlight = none → t.store.array = s.store.array)
      ∧ (s.monitor.state = .restarting →
        let damaged := (Memory.scan s.store.array).damaged
        (∀ a, a / 4096 ∉ damaged → Memory.read t.store.array a = Memory.read s.store.array a)
        ∧ ∃ cut, ∀ b ∈ damaged, b ≠ cut →
          (∀ a, a / 4096 = b → Memory.read t.store.array a = Memory.read s.store.array a)
          ∨ (∀ a, a / 4096 = b → Memory.read t.store.array a = 0xFF))
      ∧ (∀ p, t.port p = { s.port p with
          inProcess := none, reply := [], replyState := .none, overrun := false, abandoned := false, attention := false,
          requestBuffer := [], period := (s.port p).period.map fun _ => .ignored }))
    ∧ (s.monitor.resetHigh = true → (s.monitor.state = .holdup ∨ s.monitor.state = .retain) →
      exec .resetAssert s = .next { s with monitor := { s.monitor with resetHigh := false } })
    ∧ (s.monitor.resetHigh = false → exec .resetAssert s = .next s)

/-- The end of the scan takes a restart to measuring (R48, R49, R75, R98, R135, R137, R138, R154, R160). With a
restart of a kind under way, RESTART_SCAN_END answers next in RUN: the outage note is absent, the kind is the last
restart kind, the retention-valid flag is set after a COLD restart and otherwise kept; both slots are EMPTY, the ring
is empty, the tracker is in SEARCH on phase A with its nominal cycle kept, the receiver and the engine have their
restart values; each port holds no request, no reply, no mark of a lost reply and error counters 0, its notify level
kept and, unless COLD, its collection mark; the reduction context leaves SUPPLY_LOST and an open context carries gap
inside after LINE; a short interval is open from this moment, with flags read from the contexts, the last closed
boundary the greatest not later than the clock time, and the next the first after it; the clock is unchanged and the
small-step-used flag clear; a burst whose expiry time has come is finalized; and both lines are judged. The RESTART
record, with this moment, the outage note, the level of the strap and the flags of R137, is in the queue or counted as
held back; it is queued when the store is NORMAL, no episode was open, at most 4 entries waited and numbers are left.
At WARM and LINE a frozen interval becomes an INTERVAL record, ended at its freeze with the marks as they stand, in
the queue or counted; with the store NORMAL, no episode and at most 2 entries waiting it is queued behind the RESTART
record. The flags report this restart's own steps (log 39). With no restart under way it changes nothing, the model's
choice (log 1). -/
def Obligations.RestartEnds : Prop :=
  ∀ (s : State),
    (∀ kind, s.monitor.state = .restarting → s.monitor.restart = some kind → ∃ t, exec .restartScanEnd s = .next t
      ∧ t.monitor = { s.monitor with
          state := .run, restart := none, outageNote := none, lastKind := kind, smallStepUsed := false,
          retentionValid := s.monitor.retentionValid || kind == .cold }
      ∧ t.bank.operatorSlot = none ∧ t.bank.consumerSlot = none ∧ t.estimator = { ring := [], skip := false }
      ∧ t.tracker = Tracker.restart s.tracker.nominal ∧ t.link = Link.restart ∧ t.engine = { history := [], latest := none }
      ∧ (∀ p, t.port p = { s.port p with
          inProcess := none, reply := [], replyState := .none, overrun := false, abandoned := false, requestBuffer := [],
          checkFailures := 0, lengthFailures := 0, period := (s.port p).period.map fun _ => .ignored,
          mark := (t.port p).mark, attention := (t.port p).attention })
      ∧ (kind ≠ .cold → t.operator.mark = s.operator.mark ∧ t.consumer.mark = s.consumer.mark)
      ∧ (s.reduction = none → t.reduction = none) ∧ (s.swell = none → t.swell = none)
      ∧ (∀ r, s.reduction = some r → kind ≠ .cold → t.reduction = some { r with
          state := if r.state = .supplyLost then .interrupted else r.state,
          gapInside := r.gapInside || kind == .line })
      ∧ (∀ w, s.swell = some w → t.swell = some { w with gapInside := w.gapInside || kind == .line })
      ∧ (let length := t.bank.inForce.minutes * 60000
         t.aggregator = {
           interval := some
             { start := s.now, minutes := t.bank.inForce.minutes, arrangement := t.arrangement, sums := .zero,
               flags := { eventOverlap := t.reduction.isSome || t.swell.isSome, gapInside := t.gap.opened.isSome,
                          supplyLost := false, timeAdjusted := false, short := true, afterCommit := false } },
           freeze := none, lastClosed := some (s.clock / length * length),
           nextBoundary := (s.clock / length + 1) * length, skip := s.aggregator.skip })
      ∧ t.store.scanned = true
      ∧ t.builder = (if s.builder.due s.monitor.elapsed = true then { members := [], timer := none } else s.builder)
      ∧ (let r := Memory.scan s.store.array
         let record : RestartRecord :=
           { kind := kind, stamp := s.now, warning := s.monitor.outageNote, hertz60 := s.monitor.strap60,
             retentionLost := decide (kind = .cold), matrixRebuilt := decide (kind = .cold),
             marksRecovered := decide (kind = .cold) && (r.stored.flatMap fun c => c.records).any fun x => x.code == 4,
             tornDiscarded := r.tornFound, strapChanged := s.monitor.strapChanged,
             holdupIncomplete := decide (kind = .warm) && ! s.monitor.holdupComplete }
         ((∃ e ∈ t.store.queue, e.record = .restart record) ∨ ∃ e, t.store.episode = some e ∧ 1 ≤ e.counts.restart)
         ∧ (t.store.state = .normal → s.store.episode = none → s.store.queue.length ≤ 4 →
           t.store.newest + s.store.queue.length + 2 ≤ max32 → ∃ e ∈ t.store.queue, e.record = .restart record)
         ∧ ∀ i z, kind ≠ .cold → s.aggregator.interval = some i → s.aggregator.freeze = some z →
           let closed := i.record z.clock z.elapsed s.tracker.nominal s.operator.mark s.consumer.mark
           ((∃ e ∈ t.store.queue, e.record = .interval closed) ∨ ∃ e, t.store.episode = some e ∧ 1 ≤ e.counts.interval)
           ∧ (t.store.state = .normal → s.store.episode = none → s.store.queue.length ≤ 2 →
             t.store.newest + s.store.queue.length + 4 ≤ max32 → ∃ e ∈ t.store.queue, ∃ f ∈ t.store.queue,
               e.record = .restart record ∧ f.record = .interval closed ∧ e.number < f.number))
      ∧ t.lineSound .operator ∧ t.lineSound .consumer)
    ∧ ((s.monitor.state ≠ .restarting ∨ s.monitor.restart = none) → exec .restartScanEnd s = .next s)

/-- The scan of an array finds the stored blocks, their records, the write position and the damaged blocks (R100,
R104, R118, R119, R172). For a canonical array: a block is a candidate exactly when its first slot holds a well-formed
record, and it then has a byte that is not blank. Its records are found by a walk: the first at slot 0; after each the
PAD slots are skipped, and the next record is at the slot that follows, its number one more and its chain value
verifying against the one before. The walk stops at the first slot that is neither PAD nor such a record: with the
stop blank and the write position that slot where it is blank, torn and the write position 128 where it is not, or at
slot 128, with the stop the block's end and the write position 128. A candidate is confirmed by an EPOCH record that
verifies from the seed 0, or by the block before it, in circular order, whose last record has the number one less and
the chain value its first record verifies against. With no candidate confirmed there are no stored blocks; otherwise
the newest is confirmed and no confirmed candidate has a higher first number, the stored blocks lie one after another
in circular order with numbers that run on, and the walk back from the newest stopped at a block that is no candidate,
that breaks the numbering, or that is the newest itself. Damaged is every block that is not blank and not stored, and
torn record discarded is found when one is damaged or the newest block's walk stops at a torn slot. Which of two
confirmed candidates with one first number is tested first is free (log 10). -/
def Obligations.ScanFindsTheStoredBlocks : Prop :=
  ∀ (m : Memory), Memory.wf m = true →
    let r := Memory.scan m
    let before : Nat → Nat := fun b => (b + 1023) % 1024
    let written : Nat → Prop := fun b => ∃ a, a / 4096 = b ∧ Memory.read m a ≠ 0xFF
    let follows : Candidate → Candidate → Prop := fun d c => d.block = before c.block ∧ d.last.number + 1 = c.first.number
    let confirmed : Candidate → Prop := fun c =>
      (c.first.code = 11 ∧ chainOf 0 c.first.bytes = c.first.chain)
        ∨ ∃ d, Memory.candidate m (before c.block) = some d ∧ follows d c ∧ chainOf d.last.chain c.first.bytes = c.first.chain
    let all : Nat → Nat → Byte → Prop := fun b k v => ∀ j, j < 32 → Memory.read m (b * 4096 + k * 32 + j) = v
    let runsOn : Stored → Stored → Prop := fun x y => y.number = x.number + 1 ∧ chainOf x.chain y.bytes = y.chain
    (∀ b x, Memory.recordAt m b 0 = some x → ∃ c, Memory.candidate m b = some c)
    ∧ (∀ b c, Memory.candidate m b = some c → c.block = b ∧ written b ∧ Memory.recordAt m b 0 = some c.first
      ∧ c.records.head? = some c.first ∧ c.records.getLast? = some c.last
      ∧ ∃ (at' : Nat → Nat) (stop : Nat), at' 0 = 0 ∧ at' c.records.length = stop ∧ stop ≤ 128
        ∧ (∀ k x, c.records[k]? = some x → Memory.recordAt m b (at' k) = some x
          ∧ at' k + x.bytes.length / 32 ≤ at' (k + 1)
          ∧ (∀ j, at' k + x.bytes.length / 32 ≤ j → j < at' (k + 1) → all b j 0)
          ∧ ∀ y, c.records[k + 1]? = some y → runsOn x y)
        ∧ (stop = 128 → c.stop = .blockEnd ∧ c.stop.writeSlot = 128)
        ∧ (stop < 128 → all b stop 0xFF → c.stop = .blank stop ∧ c.stop.writeSlot = stop)
        ∧ (stop < 128 → ¬ all b stop 0xFF → c.stop = .torn ∧ c.stop.writeSlot = 128 ∧ ¬ all b stop 0
          ∧ ∀ y, Memory.recordAt m b stop = some y → ¬ runsOn c.last y))
    ∧ (∀ c ∈ r.stored, Memory.candidate m c.block = some c)
    ∧ (r.stored = [] ↔ ∀ b c, Memory.candidate m b = some c → ¬ confirmed c)
    ∧ (∀ c, r.stored.getLast? = some c → confirmed c ∧ ∀ b d, Memory.candidate m b = some d → confirmed d →
        d.first.number ≤ c.first.number)
    ∧ (∀ (k : Nat) (x y : Candidate), r.stored[k]? = some x → r.stored[k + 1]? = some y → follows x y)
    ∧ (∀ c newest d, r.stored.head? = some c → r.stored.getLast? = some newest →
        Memory.candidate m (before c.block) = some d → d.block = newest.block ∨ ¬ follows d c)
    ∧ (∀ b, b ∈ r.damaged ↔ (written b ∧ ∀ c ∈ r.stored, c.block ≠ b))
    ∧ (r.tornFound = true ↔ (r.damaged ≠ [] ∨ ∃ c, r.stored.getLast? = some c ∧ c.stop = .torn))

/-- The end of a restart takes the scan's result into the store, the matrix, the marks and the settings (R84, R110,
R113, R114, R115, R118, R119, R120, R121, R134, R141). With a restart under way and r what the scan finds in the
array, RESTART_SCAN_END leaves damaged blocks blank and every other byte of the array as it was; the block table,
write position and chain value those of the stored blocks; the queue its entries above the newest found, in order, and
after them what is handed over later (log 37). A reset note resumes the erase phase from block 0; a reset mark alone
resumes the drain, or its note's write with the queue empty; a blank store begins the epoch after the area's (free
past 65,535, log 11; RESETTING until it is written, log 18); otherwise the store is HELD when its head does not fit
and the block ahead is not released by the marks and settings before the restart (log 29), and NORMAL when it is not.
The epoch is that of the EPOCH record held, or the area's, less 1 with the reset mark. With no burst overdue a COLD
restart rebuilds the matrix from the records found, all zero while RESETTING, and the others keep it; COLD takes the
marks of the newest INTERVAL record found, or 0. The settings in force are the area's, and with its epoch the store's
and no reset, as changed by each SETTINGS record above the last applied number, stored or queued; a last change whose
record is in neither is restated (with no episode open). -/
def Obligations.ScanResultTakesEffect : Prop :=
  ∀ (s : State) (kind : RestartKind), s.monitor.state = .restarting → s.monitor.restart = some kind →
    let r := Memory.scan s.store.array
    let area := s.bank.areaAhead
    let found : Nat := (r.stored.getLast?.map fun c => c.last.number).getD 0
    let queue : List Entry := s.store.queue.filter fun e => decide (found < e.number)
    ∃ t, exec .restartScanEnd s = .next t
      ∧ (∀ a, Memory.read t.store.array a = if a / 4096 ∈ r.damaged then 0xFF else Memory.read s.store.array a)
      ∧ t.store.blocks = r.stored.map (fun c => { block := c.block, first := c.first.number, last := c.last.number })
      ∧ (r.stored = [] → t.store.wpBlock = 0 ∧ t.store.wpSlot = 0)
      ∧ (∀ c, r.stored.getLast? = some c → t.store.wpBlock = c.block
        ∧ t.store.wpSlot = match c.stop with | .blank k => k | .blockEnd => 128 | .torn => 128)
      ∧ queue <+: t.store.queue ∧ t.store.inFlight = none
      ∧ (∀ note, s.bank.area.note = some note → t.store.state = .resetting ∧ t.store.resetPhase = some (.erasing note 0)
        ∧ t.store.oldest = none ∧ t.store.newest = note.oldLast ∧ t.store.newestChain = note.oldChain)
      ∧ (s.bank.area.note = none → t.store.oldest = r.stored.head?.map (fun c => c.first.number) ∧ t.store.newest = found
        ∧ t.store.newestChain = (r.stored.getLast?.map fun c => c.last.chain).getD 0)
      ∧ (s.bank.area.note = none → s.bank.area.resetMark = true → t.store.state = .resetting
        ∧ t.store.resetPhase = some (if queue = [] then .noteWrite else .drain))
      ∧ (s.bank.area.note = none → s.bank.area.resetMark = false → r.stored = [] → t.store.state = .resetting
        ∧ ∃ epoch, t.store.resetPhase = some (.epochWrite
            { stamp := s.now, note := { oldEpoch := area.epoch, newEpoch := epoch, oldLast := 0, oldChain := 0 } })
          ∧ (area.epoch < 65535 → epoch = area.epoch + 1))
      ∧ (s.bank.area.note = none → s.bank.area.resetMark = false → r.stored ≠ [] → t.store.resetPhase = none
        ∧ (let blocked : Prop := (∃ e rest, queue = e :: rest ∧ 128 < t.store.wpSlot + e.record.slots)
             ∧ ({ s with store := t.store }).releasable ((t.store.wpBlock + 1) % 1024) = false
           (blocked → t.store.state = .held ∧ t.store.releaseCheck = some (s.monitor.elapsed + 60000))
           ∧ (¬ blocked → t.store.state = .normal ∧ t.store.releaseCheck = none)))
      ∧ t.store.epoch = (match (r.stored.flatMap fun c => c.records).find? (fun x => x.code == 11) with
          | some x => fieldAt x.bytes 25 2
          | none => area.epoch - (if area.resetMark = true then 1 else 0))
      ∧ (s.builder.due s.monitor.elapsed = false → t.matrix =
          if kind ≠ .cold then s.matrix
          else if t.store.state = .resetting then List.replicate 31 0
          else rebuiltMatrix (r.stored.flatMap fun c => c.records))
      ∧ (kind = .cold → ∀ p, (t.port p).mark =
          match (r.stored.flatMap fun c => c.records).reverse.find? (fun x => x.code == 4) with
          | some x => fieldAt x.bytes (if p = .operator then 55 else 59) 4
          | none => 0)
      ∧ (t.store.state = .resetting ∨ area.epoch ≠ t.store.epoch → t.bank.inForce = area.values)
      ∧ (t.store.state ≠ .resetting → area.epoch = t.store.epoch →
        let newer := settingsAbove area.lastApplied (r.stored.flatMap fun c => c.records) queue
        t.bank.inForce = newer.foldl (fun set x => set.putAll x.2) area.values
        ∧ (newer = [] → s.store.episode = none → ∀ changes number,
            area.lastChange = some { changes := changes, mark := .queued number } → found < number →
            (∀ e ∈ queue, e.number ≠ number) →
            (∃ e ∈ t.store.queue, e.record = .settings { stamp := s.now, changes := changes, restated := true })
              ∨ ∃ e, t.store.episode = some e ∧ 1 ≤ e.counts.settings))

/-- From the first power the part comes to RUN by a COLD restart and begins epoch 1 (R120, R130, R132, R133, R135,
R137). From the reset state, with POWER_UP, SUPPLY_GOOD_RISE, 50 ticks, STEADINESS_WAIT_DONE with a low strap and
RESTART_SCAN_END waiting, the 54 steps answer next: the part is in RUN after a COLD restart with retention valid, the
store is RESETTING with the EPOCH record of epoch 1 to be written and the RESTART record held back, the settings are
the defaults, and an interval is open. How the part comes to run from reset is the model's reading (log 4), and that
the store is RESETTING and holds the RESTART record back is deduced (log 18). -/
def Obligations.FirstPowerComesToRun : Prop :=
  let commands : List Instr :=
      [.powerUp, .supplyGoodRise] ++ List.replicate 50 .elapsedTick ++ [.steadinessWaitDone false, .restartScanEnd]
    let outcome : Host.Outcome State Fault Refusal := Host.Core.run Sys2Proof.core 54 (State.reset.withPending commands)
    ∃ t : State, outcome = .next t
    ∧ t.pending = [] ∧ t.monitor.state = .run ∧ t.monitor.lastKind = .cold ∧ t.monitor.retentionValid = true
    ∧ t.monitor.quality = .unset ∧ t.store.state = .resetting ∧ t.store.pendingOp = some .epochWrite
    ∧ (∃ r, t.store.resetPhase = some (.epochWrite r) ∧ r.note.newEpoch = 1 ∧ r.note.oldEpoch = 0)
    ∧ (∃ e, t.store.episode = some e ∧ e.counts = { HeldCounts.zero with restart := 1 })
    ∧ t.bank.inForce = Settings.default ∧ t.aggregator.interval.isSome = true

/-- The state at first power meets every invariant stated (R2, R17, R102, R130, R140, R154). The reset state is in
RETAIN with no command waiting, has a canonical array that reads 0xFF everywhere, an empty queue, clock and elapsed
time in range, bounded buffers, a matrix of 31 cells of 0, released lines that stand as R169 says, no reply on either
port, and the default settings in range and consistent. The blank array (log 12) and the register values (log 4) are
the model's choice where the manual gives none. -/
def Obligations.ResetStateIsSound : Prop :=
  State.reset.monitor.state = .retain ∧ State.reset.pending = [] ∧ Memory.wf State.reset.store.array = true
    ∧ (∀ a, Memory.read State.reset.store.array a = 0xFF) ∧ State.reset.store.queue = []
    ∧ State.reset.clockSound ∧ State.reset.buffersSound ∧ State.reset.matrixSound
    ∧ (∀ p, State.reset.lineSound p ∧ (State.reset.port p).replySound p ∧ (State.reset.port p).replyState = .none)
    ∧ State.reset.bank.inForce.sound

/-- A read period clocks out the reply it was given, and a whole one empties the port (R154, R155, R156, R160).
SELECT_PERIOD_START answers next with the period given the READY reply, zeros, or, outside RUN, nothing to be taken,
and the request buffer empty. In RUN, READ_PERIOD of n bytes answers next: a period given a reply sends its bytes
followed by zeros, any other n zeros; when the reply is still READY and n is at least its length, the reply state
becomes NONE and the buffer is empty, and otherwise the reply stays as it is. Outside RUN the period sends zeros, and
in RETAIN nothing; nothing is kept and nothing else changes. A period that no start announced begins as it ends (log
19). -/
def Obligations.SelectPeriodsReadReplies : Prop :=
  ∀ (p : Port) (s : State),
    let given : SelectPeriod := if s.monitor.state = .run then
      (if (s.port p).replyState = .ready then .reply (s.port p).reply else .zeros) else .ignored
    exec (.selectPeriodStart p) s = .next (s.setPort p { s.port p with period := some given, requestBuffer := [] })
    ∧ (∀ n, 2 ≤ n → s.monitor.state = .run → (s.port p).period.getD given ≠ .ignored →
      (∀ bytes, (s.port p).period.getD given = .reply bytes → bytes.length ≤ n → (s.port p).replyState = .ready →
        exec (.readPeriod p n) s = .next (s.setPort p { s.port p with
          period := none, clockedOut := bytes ++ List.replicate (n - bytes.length) 0, requestBuffer := [0, 0],
          reply := [], replyState := .none }))
      ∧ (∀ bytes, (s.port p).period.getD given = .reply bytes → n < bytes.length →
        exec (.readPeriod p n) s = .next (s.setPort p { s.port p with
          period := none, clockedOut := bytes.take n, requestBuffer := [0, 0] }))
      ∧ ((s.port p).period.getD given = .zeros →
        exec (.readPeriod p n) s = .next (s.setPort p { s.port p with
          period := none, clockedOut := List.replicate n 0, requestBuffer := [0, 0] })))
    ∧ (∀ n, s.monitor.state ≠ .run → ((s.port p).period = none ∨ (s.port p).period = some .ignored) →
      exec (.readPeriod p n) s = .next (s.setPort p { s.port p with
        period := none, requestBuffer := [],
        clockedOut := if s.monitor.state = .retain then [] else List.replicate n 0 }))

/-- A frame that fails a check is answered with the first check's status and counted (R157, R158, R159, R174). When
the port takes requests, INVALID_REQUEST_FRAME with bytes that open a request period and fail a check of R157 answers
next with a complete reply that echoes the code and tag bytes, or 0, and has no payload. A length outside 5..64 or
other than the bytes taken in gives LENGTH; then a wrong check byte gives CHECK; then a code outside 1 to 11 gives
UNKNOWN; then LENGTH for the parameters. LENGTH and CHECK add one to their counters, saturating. Nothing else changes.
A reply frame is its length, the code and tag echoes, the status and flags bytes, the payload and the check byte, the
flags byte OVERRUN in bit 0, ABANDONED in bit 1 and the request's own flags. The bytes are judged whatever the row
says (log 20). -/
def Obligations.BadFramesAnswered : Prop :=
  (∀ (p : Port) (bytes : List Byte) (s : State), (Instr.invalidRequestFrame p bytes).wf = true → s.takesRequests p →
    let n := bytes.length
    let length := fieldAt bytes 0 2
    let code := (byteAt bytes 2).toNat
    let badLength : Prop := ¬ (5 ≤ length ∧ length ≤ 64 ∧ length = n)
    let badCheck : Prop := byteAt bytes (n - 1) ≠ byteXor (bytes.take (n - 1)) ^^^ (if p = .operator then 0x4F else 0xC3)
    ∃ status t, exec (.invalidRequestFrame p bytes) s = .next t
      ∧ Answered p bytes (byteAt bytes 2) (byteAt bytes 3) status 0 []
          (s.setPort p { s.port p with
            lengthFailures := if status = .length then min 65535 ((s.port p).lengthFailures + 1)
              else (s.port p).lengthFailures,
            checkFailures := if status = .check then min 65535 ((s.port p).checkFailures + 1)
              else (s.port p).checkFailures }) t
      ∧ (badLength → status = .length) ∧ (¬ badLength → badCheck → status = .check)
      ∧ (¬ badLength → ¬ badCheck → ¬ (1 ≤ code ∧ code ≤ 11) → status = .unknown)
      ∧ (¬ badLength → ¬ badCheck → 1 ≤ code → code ≤ 11 → status = .length))
    ∧ ∀ (p : Port) (code tag flags : Byte) (status : Status) (payload : List Byte) (overrun abandoned : Bool) (own : Nat),
      let number : Byte := match status with
        | .ok => 0 | .check => 1 | .length => 2 | .unknown => 3 | .range => 4 | .conflict => 5 | .backward => 6 | .limited => 7
      let earlier := leBytes 2 (payload.length + 7) ++ [code, tag, number, flags] ++ payload
      replyFrame p code tag status flags payload =
          earlier ++ [byteXor earlier ^^^ (if p = .operator then 0x4F else 0xC3)]
        ∧ replyFlags overrun abandoned own =
          BitVec.ofNat 8 ((if overrun then 1 else 0) + (if abandoned then 2 else 0) + own)

/-- Every request's frame passes the four checks on its own port, reads back as the request, and fails on the other
port (R157, R170, R174). For every well-formed request with any tag and parameters, the frame laid out by R174 has its
length in its first two bytes, 5 to 64, passes the four checks of R157 on its port and reads back as that request,
every operand at its value; on the other port it fails the check byte. That a request command stands for this frame is
log 20. -/
def Obligations.RequestFramesRoundTrip : Prop :=
  ∀ (i : Instr) (p : Port) (frame : List Byte), i.wf = true → frameOf i = some frame → senderOf i = some p →
    fieldAt frame 0 2 = frame.length ∧ 5 ≤ frame.length ∧ frame.length ≤ 64
      ∧ frameFailure p frame = none ∧ requestOf p frame = some i ∧ frameFailure p.other frame = some .check

/-- STATUS and READ LIVE are answered at taking from the state as it stands (R85, R122, R138, R158, R161, R164, R175).
When the port takes requests, STATUS and READ LIVE answer next with a complete reply of status OK and nothing else
changed. The STATUS payload holds the figures of R175 in order, 50 bytes. The READ LIVE payload is the engine part,
left out with NO VALUES flagged when no value set is present, and then the reduction, swell, gap, Estimator, builder
and tracker parts, 59 bytes; the context states, the run count, the ring count, the member count and the tracker byte
stand at their places. -/
def Obligations.StatusAndLiveAnswered : Prop :=
  ∀ (p : Port) (tag : Byte) (s : State), s.takesRequests p →
    let code : Port → Nat := fun q =>
      match s.bank.slot q with
      | none => 0
      | some _ => if s.bank.matched then 2 else 1
    let tracker : Byte := BitVec.ofNat 8 (s.tracker.state.code + 4 * s.tracker.ref.code)
    let status : List Byte :=
      leBytes 2 s.store.epoch ++ leBytes 4 (s.store.oldest.getD 0) ++ leBytes 4 s.store.newest
        ++ leBytes 4 (s.store.newest + s.store.queue.length) ++ leBytes 1 s.store.queue.length
        ++ [BitVec.ofNat 8 s.store.state.code]
        ++ leBytes 4 ((s.store.episode.map fun e => e.counts.reduction + e.counts.burst + e.counts.swell
            + e.counts.interval + e.counts.gap + e.counts.settings + e.counts.timestep + e.counts.restart).getD 0)
        ++ leBytes 4 (s.port p).mark ++ leBytes 4 (s.port p.other).mark ++ leBytes 6 s.clock
        ++ [BitVec.ofNat 8 ((if s.monitor.quality = .set then 1 else 0) + (if s.monitor.smallStepUsed then 2 else 0))]
        ++ leBytes 6 s.monitor.elapsed ++ [BitVec.ofNat 8 s.monitor.lastKind.code]
        ++ [BitVec.ofNat 8 (code .operator + 4 * code .consumer), tracker]
        ++ leBytes 2 (s.port p).checkFailures ++ leBytes 2 (s.port p).lengthFailures ++ leBytes 2 (s.port p).notify
    (∃ t, exec (.status p tag) s = .next t ∧ status.length = 50
      ∧ Answered p (requestFrame p 1 tag []) 1 tag .ok 0 status s t)
    ∧ (∃ t engine rest, exec (.readLive p tag) s = .next t
      ∧ Answered p (requestFrame p 4 tag []) 4 tag .ok (if s.engine.latest = none then 64 else 0) (engine ++ rest) s t
      ∧ engine.length = (if s.engine.latest = none then 0 else 51) ∧ rest.length = 59
      ∧ (∀ v, s.engine.latest = some v → fieldAt engine 0 6 = v.elapsed % 2 ^ 48 ∧ fieldAt engine 6 6 = v.clock % 2 ^ 48
          ∧ fieldAt engine 12 2 = v.n % 2 ^ 16 ∧ fieldAt engine 18 2 = v.phases.a.u % 2 ^ 16
          ∧ fieldAt engine 48 3 = v.totalS % 2 ^ 24)
      ∧ fieldAt rest 0 1 = redStateCode s.reduction ∧ fieldAt rest 17 1 = (if s.swell = none then 0 else 1)
      ∧ fieldAt rest 32 1 = (if s.gap.opened = none then 0 else 1) ∧ fieldAt rest 33 1 = s.gap.runCount % 256
      ∧ fieldAt rest 38 1 = s.estimator.ring.length % 256 ∧ fieldAt rest 51 1 = s.builder.members.length % 256
      ∧ byteAt rest 58 = tracker)

/-- READ MATRIX returns the 31 cells in order; READ SETTINGS gives the values in the range and both slots, or RANGE
(R80, R81, R85, R139, R153, R158, R165, R166, R175). When the port takes requests, READ_MATRIX, which has no
parameter, answers next with a complete reply of status OK whose payload is the 31 cells, four bytes each, least
significant first: the reduction rows R-a (residual 8,500 dh or more), R-b (7,000), R-c (5,000), R-d (less), R-e (with
an interruption part), five columns each by the durations of R80, and then the swell rows S-a (maximum 13,000 dh or
more) and S-b, three columns each by R81. READ_SETTINGS answers next. With 1 <= first <= last <= 14 the reply is OK
and its payload gives both indexes, each value in force in 4 bytes, 0 for setting 13 and the current epoch for setting
14, and then for the operator slot and the consumer slot its state, its pair count, lodge time, expiry time and pairs,
zeros for an empty slot (log 42). Otherwise the status is RANGE with no payload. Nothing else changes. -/
def Obligations.MatrixAndSettingsAnswered : Prop :=
  ∀ (p : Port) (tag first last : Byte) (s : State), s.takesRequests p →
    (s.matrixSound → ∃ t payload, exec (.readMatrix p tag) s = .next t ∧ frameParams (requestFrame p 5 tag []) = []
      ∧ Answered p (requestFrame p 5 tag []) 5 tag .ok 0 payload s t ∧ payload.length = 4 * 31
      ∧ (∀ row column n, row < 5 → column < 5 → s.matrix[5 * row + column]? = some n →
          fieldAt payload (20 * row + 4 * column) 4 = n)
      ∧ (∀ row column n, row < 2 → column < 3 → s.matrix[25 + 3 * row + column]? = some n →
          fieldAt payload (100 + 12 * row + 4 * column) 4 = n)
      ∧ (∀ (x : Summary), ∃ row column, (Record.reduction x).cell = some (5 * row + column) ∧ row < 5 ∧ column < 5
        ∧ (x.interruption.isSome = true → row = 4)
        ∧ (x.interruption = none → row = if 8500 ≤ x.residual then 0 else if 7000 ≤ x.residual then 1
            else if 5000 ≤ x.residual then 2 else 3)
        ∧ column = if x.duration < 100 then 0 else if x.duration < 400 then 1 else if x.duration < 2000 then 2
            else if x.duration < 20000 then 3 else 4)
      ∧ (∀ (x : SwellRecord), (Record.swell x).cell = some (25 + (if 13000 ≤ x.maximum then 0 else 3)
          + if x.duration < 400 then 0 else if x.duration < 2000 then 1 else 2)))
    ∧
    let frame := requestFrame p 6 tag [first, last]
    let value : Nat → Nat := fun k => if k = 13 then 0 else if k = 14 then s.bank.currentEpoch else s.bank.inForce.value k
    let slot : Port → List Byte := fun q =>
      match s.bank.slot q with
      | none => List.replicate 14 0
      | some x => [if s.bank.matched then 2 else 1] ++ leBytes 1 x.changes.length ++ leBytes 6 x.lodged
          ++ leBytes 6 x.expiry ++ x.changes.flatMap fun c => leBytes 1 c.index ++ leSigned 4 c.value
    (1 ≤ first.toNat → first.toNat ≤ last.toNat → last.toNat ≤ 14 → ∃ t, exec (.readSettings p tag first last) s = .next t
      ∧ Answered p frame 6 tag .ok 0 ([first, last]
          ++ ((List.range' first.toNat (last.toNat + 1 - first.toNat)).flatMap fun k => leSigned 4 (value k : Int))
          ++ slot .operator ++ slot .consumer) s t)
    ∧ (¬ (1 ≤ first.toNat ∧ first.toNat ≤ last.toNat ∧ last.toNat ≤ 14) → ∃ t,
      exec (.readSettings p tag first last) s = .next t ∧ Answered p frame 6 tag .range 0 [] s t)

/-- COLLECT moves its own port's mark up, and not past newest committed (R110, R158, R163, R169, R175). When the port
takes requests, COLLECT answers next. A number below the mark is answered BACKWARD with the mark and the epoch, and
nothing else changes. Any other number makes the mark the lesser of it and newest committed, answered OK with the mark
and the epoch, CLAMPED when the number was above; a HELD store whose next block is then releasable becomes NORMAL,
with no release check; both lines are judged afresh; the other port's mark, the queue, the array and the settings are
unchanged. -/
def Obligations.CollectAnswered : Prop :=
  ∀ (p : Port) (tag : Byte) (number : BitVec 32) (s : State), s.takesRequests p →
    let frame := requestFrame p 3 tag (leBytes 4 number.toNat)
    let mark := min number.toNat s.store.newest
    (number.toNat < (s.port p).mark → ∃ t, exec (.collect p tag number) s = .next t
      ∧ Answered p frame 3 tag .backward 0 (leBytes 4 (s.port p).mark ++ leBytes 2 s.store.epoch) s t)
    ∧ ((s.port p).mark ≤ number.toNat → ∃ t u, exec (.collect p tag number) s = .next t
      ∧ Answered p frame 3 tag .ok (if s.store.newest < number.toNat then 16 else 0)
          (leBytes 4 mark ++ leBytes 2 s.store.epoch) (s.setPort p { s.port p with mark := mark }) u
      ∧ t.port p = { u.port p with attention := (t.port p).attention }
      ∧ t.port p.other = { s.port p.other with attention := (t.port p.other).attention }
      ∧ t.lineSound .operator ∧ t.lineSound .consumer
      ∧ (if s.store.state = .held ∧ u.releasable ((s.store.wpBlock + 1) % 1024) = true then
          t.store = { s.store with state := .normal, releaseCheck := none, pendingOp := t.store.pendingOp }
        else t.store = { s.store with pendingOp := t.store.pendingOp })
      ∧ t = { s with store := t.store, operator := t.operator, consumer := t.consumer })

/-- LODGE is refused by the first check it fails, and otherwise replaces its port's slot whole (R139, R142, R143,
R158, R166, R169, R175). When the port takes requests, LODGE answers next. Outside 1 to 8 pairs, or with some index or
value outside the ranges of R139, it gives RANGE; then with an index twice, setting 14 beside another, or inconsistent
thresholds CONFLICT; a refusal has no payload and changes nothing else. Otherwise it gives OK: the port's slot holds
the pairs in the order lodged with this elapsed time and an expiry 7,200,000 ms later, the other slot and the settings
in force are unchanged, the reply carries both slot states, MATCHED exactly when both slots hold the same set of
pairs, and both lines are judged afresh. More than 11 pairs fit no frame (log 20). -/
def Obligations.LodgeAnswered : Prop :=
  ∀ (p : Port) (tag : Byte) (pairs : List RawPair) (s : State), s.takesRequests p → pairs.length ≤ 11 →
    let epoch := s.bank.currentEpoch
    let admitted : RawPair → Prop := fun r =>
      let k := r.index.toNat
      let v := r.value.toInt
      (k = 1 ∧ 4000 ≤ v ∧ v ≤ 16000) ∨ (k = 2 ∧ 1000 ≤ v ∧ v ≤ 16000) ∨ (k = 3 ∧ 5000 ≤ v ∧ v ≤ 9500)
        ∨ (k = 4 ∧ 10500 ≤ v ∧ v ≤ 15000) ∨ (k = 5 ∧ 100 ≤ v ∧ v ≤ 1000) ∨ (k = 6 ∧ 0 ≤ v ∧ v ≤ 500)
        ∨ (k = 7 ∧ v ∈ ([1, 3, 5, 10, 15, 30, 60] : List Int)) ∨ (k = 8 ∧ 0 ≤ v ∧ v ≤ 60000)
        ∨ (k = 9 ∧ 7 ≤ v ∧ v ≤ 366) ∨ (k = 10 ∧ 100 ≤ v ∧ v ≤ 5000) ∨ (k = 11 ∧ 10 ≤ v ∧ v ≤ 2000)
        ∨ (k = 12 ∧ (v = 1 ∨ v = 3)) ∨ (k = 13 ∧ -315360000 ≤ v ∧ v ≤ 315360000 ∧ v ≠ 0)
        ∨ (k = 14 ∧ epoch < 65535 ∧ v = (epoch : Int) + 1)
    let rangeOk : Prop := 1 ≤ pairs.length ∧ pairs.length ≤ 8 ∧ ∀ r ∈ pairs, admitted r
    let laid : Nat → Int := fun k =>
      match pairs.find? fun r => r.index.toNat == k with
      | some r => r.value.toInt
      | none => s.bank.inForce.value k
    let noConflict : Prop := (pairs.map RawPair.index).Nodup ∧ ((∃ r ∈ pairs, r.index = 14) → pairs.length = 1)
      ∧ laid 5 + laid 6 < laid 3 ∧ laid 3 + laid 6 < 10000 ∧ 10000 < laid 4 - laid 6
    let changes := pairs.map fun r => ({ index := r.index.toNat, value := r.value.toInt } : Change)
    let frame := lodgeFrame p tag pairs
    (¬ rangeOk → ∃ t, exec (.lodge p tag pairs) s = .next t ∧ Answered p frame 7 tag .range 0 [] s t)
    ∧ (rangeOk → ¬ noConflict → ∃ t, exec (.lodge p tag pairs) s = .next t ∧ Answered p frame 7 tag .conflict 0 [] s t)
    ∧ (rangeOk → noConflict → ∃ t u slots, exec (.lodge p tag pairs) s = .next t
      ∧ Answered p frame 7 tag .ok 0 [slots] { s with bank := t.bank } u
      ∧ t.bank.slot p = some { changes := changes, lodged := s.monitor.elapsed, expiry := s.monitor.elapsed + 7200000 }
      ∧ t.bank = s.bank.setSlot p (t.bank.slot p)
      ∧ slots.toNat % 4 = t.bank.slotCode .operator ∧ slots.toNat / 4 = t.bank.slotCode .consumer
      ∧ (t.bank.slotCode p = 1 ∨ t.bank.slotCode p = 2)
      ∧ (t.bank.slotCode p = 2 ↔ ∃ x, s.bank.slot p.other = some x ∧ sameChanges x.changes changes = true)
      ∧ (∀ x, s.bank.slot p.other = some x → (x.changes.map Change.index).Nodup →
          (sameChanges x.changes changes = true ↔ ∀ c, c ∈ x.changes ↔ c ∈ changes))
      ∧ t.lineSound .operator ∧ t.lineSound .consumer
      ∧ t = { u with
          store := { u.store with pendingOp := t.store.pendingOp },
          operator := { u.operator with attention := t.operator.attention },
          consumer := { u.consumer with attention := t.consumer.attention } })

/-- WITHDRAW empties its own port's slot and leaves the other LODGED (R144). When the port takes requests, WITHDRAW
answers next, whatever the slot held: the port's own slot is empty, the other slot is as it was and, if it holds a
proposal, LODGED, and the reply is OK. The bank is otherwise unchanged and both lines are judged afresh; nothing else
changes but the store's pending operation. -/
def Obligations.WithdrawAnswered : Prop :=
  ∀ (p : Port) (tag : Byte) (s : State), s.takesRequests p →
    ∃ t u slots, exec (.withdraw p tag) s = .next t
      ∧ Answered p (requestFrame p 8 tag []) 8 tag .ok 0 [slots] { s with bank := t.bank } u
      ∧ t.bank = s.bank.setSlot p none ∧ t.bank.slot p = none ∧ t.bank.slot p.other = s.bank.slot p.other
      ∧ t.bank.slotCode p = 0 ∧ t.bank.slotCode p.other = (if (s.bank.slot p.other).isSome then 1 else 0)
      ∧ slots.toNat = t.bank.slotCode .operator + 4 * t.bank.slotCode .consumer
      ∧ t.lineSound .operator ∧ t.lineSound .consumer
      ∧ t = { u with
          store := { u.store with pendingOp := t.store.pendingOp },
          operator := { u.operator with attention := t.operator.attention },
          consumer := { u.consumer with attention := t.consumer.attention } }

/-- TIME is refused by the first check it fails, and otherwise moves the clock; SET NOTIFY sets its port's level (R88,
R94, R95, R124, R125, R127, R152, R158, R167, R175). When the port takes requests, TIME SET, TIME STEP and TIME with
another form answer next. SET outside the clock's range gives RANGE, and on a SET clock CONFLICT; STEP of 0 or above
2,000 ms gives RANGE, on an UNSET clock CONFLICT, with the flag set LIMITED, past the clock's range RANGE; another
form gives RANGE; each refusal carries the clock and changes nothing else. An accepted SET makes the clock the value
and SET; an accepted STEP adds the step and sets the flag; with an interval OPEN and a NORMAL store with room, a step
that does not reach the next boundary marks the interval, sets the next boundary afresh and queues the TIMESTEP
record, and one that reaches it closes the interval at the time before the step and opens one at the time after,
marked, its INTERVAL record and the TIMESTEP record queued in either order. The reply carries the clock after; the
code of its quality byte is log 28. SET_NOTIFY clamps its value to 1..4,096, sets this port's level and judges the
lines. -/
def Obligations.TimeAndNotifyAnswered : Prop :=
  ∀ (p : Port) (tag : Byte) (s : State), s.takesRequests p →
    let quality : Byte := if s.monitor.quality = .set then 1 else 0
    let shown := leBytes 6 s.clock ++ [quality]
    let refused : Instr → List Byte → Status → Prop := fun i params status =>
      ∃ t, exec i s = .next t ∧ Answered p (requestFrame p 9 tag params) 9 tag status 0 shown s t
    let replied : State → List Byte → Prop := fun t payload =>
      (t.port p).replyState = .ready ∧ (t.port p).reply = replyFrame p 9 tag .ok
          (replyFlags ((s.port p).overrun || (s.port p).replyState == .ready)
            ((s.port p).abandoned || (s.port p).replyState == .preparing) 0) payload
        ∧ t.port p.other = s.port p.other ∧ t.bank = s.bank ∧ t.matrix = s.matrix
        ∧ t.reduction = s.reduction ∧ t.swell = s.swell ∧ t.store.array = s.store.array
    let room : Prop := s.store.state = .normal ∧ s.store.episode = none ∧ s.store.queue.length ≤ 4
      ∧ s.store.newest + s.store.queue.length + 2 ≤ max32
    (∀ v : BitVec 64,
      (¬ (0 ≤ v.toInt ∧ v.toInt ≤ max48) → refused (.timeSet p tag v) (0 :: leBytes 8 v.toNat) .range)
      ∧ (0 ≤ v.toInt → v.toInt ≤ max48 → s.monitor.quality = .set →
        refused (.timeSet p tag v) (0 :: leBytes 8 v.toNat) .conflict)
      ∧ (0 ≤ v.toInt → v.toInt ≤ max48 → s.monitor.quality = .unset → ∃ t, exec (.timeSet p tag v) s = .next t
        ∧ (t.clock : Int) = v.toInt ∧ t.monitor.quality = .set ∧ t.monitor.elapsed = s.monitor.elapsed
        ∧ replied t (leBytes 6 v.toInt.toNat ++ [1]) ∧ t.aggregator.lastClosed = none
        ∧ (∀ i, s.aggregator.interval = some i → s.aggregator.freeze = none → room →
          let stepped : Record := .timestep
            { initial := true, port := p, before := s.clock, after := t.clock, elapsed := s.monitor.elapsed, quality := .set }
          let closed : Record := .interval
            ({ i with flags := { i.flags with timeAdjusted := true } }.record s.clock s.monitor.elapsed s.tracker.nominal
              s.operator.mark s.consumer.mark)
          let number := s.store.newest + s.store.queue.length + 1
          t.monitor.smallStepUsed = false
            ∧ t.aggregator = {
              interval := some
                { start := { clock := t.clock, elapsed := s.monitor.elapsed, quality := .set },
                  minutes := s.bank.inForce.minutes, arrangement := s.arrangement, sums := .zero,
                  flags := { eventOverlap := s.reduction.isSome || s.swell.isSome, gapInside := s.gap.opened.isSome,
                             supplyLost := false, timeAdjusted := true, short := false, afterCommit := false } },
              freeze := none, lastClosed := none,
              nextBoundary := (t.clock / (s.bank.inForce.minutes * 60000) + 1) * (s.bank.inForce.minutes * 60000),
              skip := s.aggregator.skip }
            ∧ (t.store.queue = s.store.queue ++ [{ number := number, record := closed }, { number := number + 1, record := stepped }]
              ∨ t.store.queue = s.store.queue ++ [{ number := number, record := stepped }, { number := number + 1, record := closed }]))))
    ∧ (∀ v : BitVec 64, let x := v.toInt
      let outside : Prop := ¬ (0 ≤ (s.clock : Int) + x ∧ (s.clock : Int) + x ≤ max48)
      ((x = 0 ∨ 2000 < x.natAbs) → refused (.timeStep p tag v) (1 :: leBytes 8 v.toNat) .range)
      ∧ (x ≠ 0 → x.natAbs ≤ 2000 → s.monitor.quality = .unset →
        refused (.timeStep p tag v) (1 :: leBytes 8 v.toNat) .conflict)
      ∧ (x ≠ 0 → x.natAbs ≤ 2000 → s.monitor.quality = .set → s.monitor.smallStepUsed = true →
        refused (.timeStep p tag v) (1 :: leBytes 8 v.toNat) .limited)
      ∧ (x ≠ 0 → x.natAbs ≤ 2000 → s.monitor.quality = .set → s.monitor.smallStepUsed = false → outside →
        refused (.timeStep p tag v) (1 :: leBytes 8 v.toNat) .range)
      ∧ (x ≠ 0 → x.natAbs ≤ 2000 → s.monitor.quality = .set → s.monitor.smallStepUsed = false → ¬ outside →
        s.clockSound → ∃ t, exec (.timeStep p tag v) s = .next t
        ∧ (t.clock : Int) = (s.clock : Int) + x ∧ t.monitor = { s.monitor with
            offset := s.monitor.offset + x, smallStepUsed := true }
        ∧ replied t (leBytes 6 t.clock ++ [1])
        ∧ (∀ i, s.aggregator.interval = some i → s.aggregator.freeze = none → room →
          t.clock < s.aggregator.nextBoundary →
          let stepped : Record := .timestep
            { initial := false, port := p, before := s.clock, after := t.clock, elapsed := s.monitor.elapsed, quality := .set }
          t.store.queue = s.store.queue ++ [{ number := s.store.newest + s.store.queue.length + 1, record := stepped }]
          ∧ t.aggregator = { s.aggregator with
              interval := some { i with flags := { i.flags with timeAdjusted := true } },
              nextBoundary := (max t.clock (s.aggregator.lastClosed.getD 0) / (s.bank.inForce.minutes * 60000) + 1)
                * (s.bank.inForce.minutes * 60000) })
        ∧ (∀ i, s.aggregator.interval = some i → s.aggregator.freeze = none → room →
          s.aggregator.nextBoundary ≤ t.clock →
          let stepped : Record := .timestep
            { initial := false, port := p, before := s.clock, after := t.clock, elapsed := s.monitor.elapsed, quality := .set }
          let closed : Record := .interval
            ({ i with flags := { i.flags with timeAdjusted := true } }.record s.clock s.monitor.elapsed s.tracker.nominal
              s.operator.mark s.consumer.mark)
          let number := s.store.newest + s.store.queue.length + 1
          let minutes := s.bank.inForce.minutes
          t.aggregator = {
            interval := some
              { start := { clock := t.clock, elapsed := s.monitor.elapsed, quality := .set }, minutes := minutes,
                arrangement := s.arrangement, sums := .zero,
                flags := { eventOverlap := s.reduction.isSome || s.swell.isSome, gapInside := s.gap.opened.isSome,
                           supplyLost := false, timeAdjusted := true, short := false, afterCommit := false } },
            freeze := none, lastClosed := some s.aggregator.nextBoundary,
            nextBoundary := (t.clock / (minutes * 60000) + 1) * (minutes * 60000), skip := s.aggregator.skip }
          ∧ (t.store.queue = s.store.queue ++ [{ number := number, record := closed }, { number := number + 1, record := stepped }]
            ∨ t.store.queue = s.store.queue ++ [{ number := number, record := stepped }, { number := number + 1, record := closed }]))))
    ∧ (∀ (form : Byte) (v : BitVec 64), 2 ≤ form.toNat →
      refused (.timeBadForm p tag form v) (form :: leBytes 8 v.toNat) .range)
    ∧ (∀ v : BitVec 16, let level := if v.toNat < 1 then 1 else if 4096 < v.toNat then 4096 else v.toNat
      ∃ t u, exec (.setNotify p tag v) s = .next t
        ∧ Answered p (requestFrame p 10 tag (leBytes 2 v.toNat)) 10 tag .ok 0 (leBytes 2 level)
            (s.setPort p { s.port p with notify := level }) u
        ∧ t.lineSound .operator ∧ t.lineSound .consumer
        ∧ t = { u with
            store := { u.store with pendingOp := t.store.pendingOp },
            operator := { u.operator with attention := t.operator.attention },
            consumer := { u.consumer with attention := t.consumer.attention } })

/-- READ RECORDS and FLUSH wait in process, and FLUSH with nothing to wait for is answered at once (R122, R154, R158,
R162, R168, R174). When the port takes requests, READ_RECORDS answers next with a waiting read of its first number and
of one more than bits 3 to 0 of its count byte, and the reply state PREPARING. FLUSH with an empty queue or a HELD
store is answered OK at once with newest queued, as its target (log 41), and newest committed, HELD flagged when the
store is HELD; otherwise it answers next with newest queued as its target and the state PREPARING. An unread reply is
discarded with OVERRUN and a request in process is cancelled with ABANDONED; nothing else changes. -/
def Obligations.WaitingRequestsKept : Prop :=
  ∀ (p : Port) (tag : Byte) (s : State), s.takesRequests p →
    (∀ (first : BitVec 32) (count : Byte), ∃ t, exec (.readRecords p tag first count) s = .next t
      ∧ KeptInProcess p (requestFrame p 2 tag (leBytes 4 first.toNat ++ [count]))
          (.read tag first.toNat ((count &&& 0x0F).toNat + 1)) s t)
    ∧ ((s.store.queue = [] ∨ s.store.state = .held) → ∃ t, exec (.flush p tag) s = .next t
      ∧ Answered p (requestFrame p 11 tag []) 11 tag .ok (if s.store.state = .held then 32 else 0)
          (leBytes 4 (s.store.newest + s.store.queue.length) ++ leBytes 4 s.store.newest) s t)
    ∧ (s.store.queue ≠ [] → s.store.state ≠ .held → ∃ t, exec (.flush p tag) s = .next t
      ∧ KeptInProcess p (requestFrame p 11 tag []) (.flush tag (s.store.newest + s.store.queue.length)) s t)

/-- A valid window above Ts or clipped opens a swell, one below the release closes it, and every valid window ends a
gap (R35, R38, R50, R51, R52, R55, R57, R78, R79). With no swell open and some considered phase above Ts, or the
window clipped, a swell opens at the window, with the time quality of its set (log 3), not ended by supply loss, with
the highest U½ of the considered phases on the lowest-lettered phase that has it, the phases above Ts and the clipped
mark; with none of that it stays IDLE. With a swell open, it closes exactly when every considered phase is at Ts - H
or below and the window is not clipped, in a SWELL record from its start to the window with the greatest maximum seen,
its saturating duration, the arrangement and its phases and flags; otherwise it goes on with its start kept. After
every valid window the gap is CLOSED with run count 0 and no run start. Where no reduction is open and none opens, a
SWELL record with no gap open is counted once and taken by the store; an OPEN gap with no swell closing gives a GAP
record with cause MEASUREMENT, its start, the window's end, the saturating duration, its windows and no held-back
counts, taken by the store and not counted; and with neither nothing is made. -/
def Obligations.SwellsAndGapsAtValidWindows : Prop :=
  ∀ (s : State) (v : ValueSet), v.valid = true → s.bank.inForce.h ≤ s.bank.inForce.ts →
    let set := s.bank.inForce
    let t := s.takeWindow v
    let above : Prop := v.clipped = true ∨ ∃ f, s.considered.has f = true ∧ set.ts < v.u f
    let below : Prop := v.clipped = false ∧ ∀ f, s.considered.has f = true → v.u f ≤ set.ts - set.h
    let quiet : Prop := s.reduction = none ∧ ∀ f, s.considered.has f = true → set.td ≤ v.u f
    let closed : Swell → SwellRecord → Prop := fun w r =>
      r = { start := w.start, closeClock := v.clock, closeElapsed := v.elapsed,
            duration := min max32 (v.elapsed - w.start.elapsed),
            saturated := decide (max32 < v.elapsed - w.start.elapsed), maximum := r.maximum,
            maximumPhase := r.maximumPhase, phases := w.phases, arrangement := s.arrangement,
            clippedInside := w.clippedInside, gapInside := w.gapInside, endedBySupplyLoss := w.endedBySupplyLoss }
      ∧ (∀ f, s.considered.has f = true → v.u f ≤ r.maximum)
      ∧ ((r.maximum = w.maximum ∧ r.maximumPhase = w.maximumPhase)
        ∨ (w.maximum < r.maximum ∧ s.considered.has r.maximumPhase = true ∧ v.u r.maximumPhase = r.maximum
          ∧ ∀ f, s.considered.has f = true → v.u f = r.maximum → r.maximumPhase.code ≤ f.code))
    (s.swell = none → ¬ above → t.swell = none)
    ∧ (s.swell = none → above → ∃ w, t.swell = some w
      ∧ w.start = { clock := v.clock, elapsed := v.elapsed, quality := s.tracker.setQuality }
      ∧ s.considered.has w.maximumPhase = true ∧ v.u w.maximumPhase = w.maximum
      ∧ (∀ f, s.considered.has f = true → v.u f ≤ w.maximum ∧ (v.u f = w.maximum → w.maximumPhase.code ≤ f.code))
      ∧ (∀ f, w.phases.has f = true ↔ (s.considered.has f = true ∧ set.ts < v.u f))
      ∧ w.clippedInside = v.clipped ∧ w.gapInside = false ∧ w.endedBySupplyLoss = false)
    ∧ (∀ w, s.swell = some w → ¬ below → ∃ x, t.swell = some x ∧ x.start = w.start
      ∧ w.maximum ≤ x.maximum ∧ (∀ f, s.considered.has f = true → v.u f ≤ x.maximum)
      ∧ (∀ f, x.phases.has f = true ↔ (w.phases.has f = true ∨ (s.considered.has f = true ∧ set.ts < v.u f)))
      ∧ x.clippedInside = (w.clippedInside || v.clipped) ∧ x.gapInside = w.gapInside
      ∧ x.endedBySupplyLoss = w.endedBySupplyLoss)
    ∧ (∀ w, s.swell = some w → below → t.swell = none
      ∧ ∃ r, (swellWindow set s.considered v s.tracker.setQuality s.swell).2 = some r ∧ closed w r
        ∧ (quiet → s.gap.opened = none → t.matrix = countRecord s.matrix (.swell r)
          ∧ t.store = (s.store.take s.now (.swell r)).settle))
    ∧ t.gap = { opened := none, runCount := 0, runStart := none }
    ∧ (quiet → (s.swell = none ∨ ¬ below) → t.matrix = s.matrix
      ∧ (s.gap.opened = none → t.store = s.store)
      ∧ ∀ g, s.gap.opened = some g → t.store = (s.store.take s.now (.gap
          { cause := .measurement, startClock := g.start.clock, quality := g.start.quality, endClock := v.clock,
            duration := min max32 (v.elapsed - g.start.elapsed), windows := g.windows,
            counts := HeldCounts.zero })).settle)

/-- The attention lines stand as the table of R169 says after every command (R160, R163, R169). If both attention
lines stand as R169 says, released outside RUN (R160), and a command answers next, they stand so after it: no command
changes an input of the table without judging the lines afresh. -/
def Obligations.AttentionLinesStaySound : Prop :=
  ∀ (i : Instr) (s t : State), s.lineSound .operator → s.lineSound .consumer → exec i s = .next t →
    t.lineSound .operator ∧ t.lineSound .consumer

/-- Every READY reply carries its port's check byte, and a request is in process exactly while PREPARING (R154, R157,
R158, R174). If on both ports a READY reply ends in the check byte of its own port, a reply that is not READY has no
bytes, and a request is in process exactly while the reply state is PREPARING, and a command answers next, the same
holds after it. -/
def Obligations.RepliesStayWhole : Prop :=
  ∀ (i : Instr) (s t : State), (∀ p, (s.port p).replySound p) → exec i s = .next t → ∀ p, (t.port p).replySound p

/-- No command grows a buffer or the commit queue past its size or changes the number of cells (R2, R17, R59, R71,
R72, R80, R82, R102, R105, R112, R121). If the history and the marks hold at most 256 sets, the ring at most 20
entries, the builder at most 8 members and at most 7 while a reduction is open, and the matrix has 31 cells of 32
bits, and a command answers next, the same holds after it; and if the commit queue holds at most 6 records, it holds
at most 6 after it. -/
def Obligations.BuffersAndMatrixStayBounded : Prop :=
  ∀ (i : Instr) (s t : State), exec i s = .next t →
    (s.buffersSound → s.matrixSound → t.buffersSound ∧ t.matrixSound)
    ∧ (s.store.queue.length ≤ 6 → t.store.queue.length ≤ 6)

/-- A port's master cannot change, and cannot see, what belongs to the other port (R109, R144, R154, R158, R163,
10_reader_ports.md). A command that a port's master sends leaves the other port as it was but for its attention line,
leaves the other port's slot and every byte of the array as they were; and with the other port's state replaced by any
other with the same collection mark, what the command leaves of its own port, the settings, the store and the clock is
the same. -/
def Obligations.PortsStayApart : Prop :=
  ∀ (p : Port) (i : Instr) (s t : State), senderOf i = some p → exec i s = .next t →
    t.port p.other = { s.port p.other with attention := (t.port p.other).attention }
    ∧ t.bank.slot p.other = s.bank.slot p.other
    ∧ (∀ a, Memory.read t.store.array a = Memory.read s.store.array a)
    ∧ ∀ (x : PortState) (u : State), x.mark = (s.port p.other).mark → exec i (s.setPort p.other x) = .next u →
        u.port p = t.port p ∧ u.bank = t.bank ∧ u.store = t.store ∧ u.monitor = t.monitor

/-- Each block changes only at the commands that its rules name (R2, R8, R17, R33, R58, R71, R82, R103, R123, R131,
R148, R163). For every well-formed command that answers next: the receiver, the tracker and the engine change only at
link and tracker commands and at a restart; the three contexts also at the supply's fall; the builder also at its
expiry; the ring also at a boundary's commit; the matrix also at the end of an epoch reset; the aggregator only at
these, a boundary, the reset line and TIME; the settings in force only at a boundary and the end of a restart's scan;
newest committed only at a write's completion and a scan; the clock only at a tick, a boundary's commit, TIME and the
supply's commands; a collection mark only at its own port's COLLECT, the end of an epoch reset and a scan. -/
def Obligations.EachBlockKeepsToItsCommands : Prop :=
  ∀ (i : Instr) (s t : State), i.wf = true → exec i s = .next t →
    (ofTheLink i = false → i ≠ .restartScanEnd → t.link = s.link ∧ t.engine = s.engine
      ∧ (startsRestart i = false → t.tracker = s.tracker)
      ∧ (i ≠ .intervalBoundary → t.estimator = s.estimator)
      ∧ (startsRestart i = false → i ≠ .supplyGoodFall → t.reduction = s.reduction ∧ t.swell = s.swell ∧ t.gap = s.gap
        ∧ (i ≠ .burstExpiry → t.builder = s.builder ∧ (i ≠ .epochWriteComplete → t.matrix = s.matrix))
        ∧ (i ≠ .intervalBoundary → i ≠ .resetAssert → movesTime i = false → t.aggregator = s.aggregator)))
    ∧ (i ≠ .intervalBoundary → i ≠ .restartScanEnd → t.bank.inForce = s.bank.inForce)
    ∧ (i ≠ .recordWriteComplete → i ≠ .epochWriteComplete → i ≠ .restartScanEnd →
      t.store.newest = s.store.newest ∧ t.store.newestChain = s.store.newestChain)
    ∧ (i ≠ .elapsedTick → i ≠ .intervalBoundary → movesTime i = false → ofTheSupply i = false → t.monitor = s.monitor)
    ∧ (∀ p, (∀ tag n, i ≠ .collect p tag n) → i ≠ .epochWriteComplete → i ≠ .restartScanEnd →
      (t.port p).mark = (s.port p).mark)

/-- A step runs the command at the front of the queue on the rest (00_scope.md). For every command, state and queue, a
step of the state with the command at the front of its queue is what the command does on the state with the queue's
rest; on an empty queue the step answers next with the state unchanged. The queue and the idling are the model's
choice (log 1, log 2). -/
def Obligations.StepRunsTheFrontCommand : Prop :=
  ∀ (c : Instr) (queue : List Instr) (s : State),
    step (s.withPending (c :: queue)) = exec c (s.withPending queue) ∧ step (s.withPending []) = .next (s.withPending [])

/-- Every command completes in every state and leaves the waiting commands alone (00_scope.md, 10_reader_ports.md,
R155, R157). For every command, well formed or not, and every state, the command answers next, and the commands
waiting behind it are as they were: nothing the part is given stops it. The queue that is left alone, and the next
state for a command that is not due or not well formed, are the model's choice (log 1, log 2, log 20, log 21). -/
def Obligations.EveryCommandCompletes : Prop :=
  ∀ (i : Instr) (s : State), ∃ t, exec i s = .next t ∧ t.pending = s.pending
end

