-- ==== Sys2Proof/Laws/Array.lean ====
section
/-! SUPPORT. The array's laws: every operation keeps the canonical form, and a read after a write gives what was written, and
elsewhere what was there. -/

namespace Sys2Proof.Machine

open Sys2Proof

/-! ### The canonical form -/

theorem Memory.wfAbove_cons {b x : Nat} {v : Byte} {m : Memory} :
    Memory.wfAbove b ((x, v) :: m) = true ↔ b ≤ x ∧ v ≠ blankByte ∧ Memory.wfAbove (x + 1) m = true := by
  simp [Memory.wfAbove, and_assoc]

theorem Memory.wfAbove_mono {a b : Nat} {m : Memory} (h : a ≤ b) (w : Memory.wfAbove b m = true) :
    Memory.wfAbove a m = true := by
  cases m with
  | nil => rfl
  | cons c m =>
    rw [Memory.wfAbove_cons] at w ⊢
    exact ⟨h.trans w.1, w.2⟩

/-- Below the first listed address every byte is blank. -/
theorem Memory.read_below {b a : Nat} {m : Memory} (w : Memory.wfAbove b m = true) (h : a < b) :
    Memory.read m a = blankByte := by
  induction m generalizing b with
  | nil => rfl
  | cons c m ih =>
    rw [Memory.wfAbove_cons] at w
    have hx : c.1 ≠ a := by omega
    simp only [Memory.read, if_neg hx]
    exact ih w.2.2 (by omega)

theorem Memory.write_wfAbove {b a : Nat} {v : Byte} {m : Memory} (w : Memory.wfAbove b m = true) (h : b ≤ a) :
    Memory.wfAbove b (Memory.write m a v) = true := by
  induction m generalizing b with
  | nil =>
    unfold Memory.write
    split
    · rfl
    · exact Memory.wfAbove_cons.2 ⟨h, ‹_›, rfl⟩
  | cons c m ih =>
    obtain ⟨hb, hv, hm⟩ := Memory.wfAbove_cons.1 w
    unfold Memory.write
    split
    · split
      · exact w
      · exact Memory.wfAbove_cons.2 ⟨h, ‹_›, Memory.wfAbove_cons.2 ⟨by omega, hv, hm⟩⟩
    · split
      · split
        · exact Memory.wfAbove_mono (by omega) hm
        · subst_vars
          exact Memory.wfAbove_cons.2 ⟨h, ‹_›, hm⟩
      · exact Memory.wfAbove_cons.2 ⟨hb, hv, ih hm (by omega)⟩

/-- A write keeps the canonical form. -/
theorem Memory.write_wf {a : Nat} {v : Byte} {m : Memory} (w : Memory.wf m = true) : Memory.wf (Memory.write m a v) = true :=
  Memory.write_wfAbove w (Nat.zero_le a)

/-- A read after a write: the byte written, and elsewhere what was there. -/
theorem Memory.read_write {b : Nat} {m : Memory} (w : Memory.wfAbove b m = true) (a x : Nat) (v : Byte) :
    Memory.read (Memory.write m a v) x = if x = a then v else Memory.read m x := by
  induction m generalizing b with
  | nil =>
    unfold Memory.write
    by_cases hv : v = blankByte
    · simp [hv, Memory.read]
    · rw [if_neg hv]
      by_cases hx : x = a
      · simp [Memory.read, hx]
      · simp [Memory.read, hx, Ne.symm hx]
  | cons c m ih =>
    obtain ⟨hb, hv, hm⟩ := Memory.wfAbove_cons.1 w
    have ih := ih hm
    by_cases h1 : a < c.1
    · have hblank : Memory.read (c :: m) a = blankByte :=
        Memory.read_below (Memory.wfAbove_cons.2 ⟨Nat.le_refl _, hv, hm⟩ : Memory.wfAbove c.1 (c :: m) = true) h1
      by_cases hblk : v = blankByte
      · simp only [Memory.write, if_pos h1, if_pos hblk]
        split
        · subst_vars; exact hblank
        · rfl
      · simp only [Memory.write, if_pos h1, if_neg hblk]
        by_cases hx : x = a
        · simp [Memory.read, hx]
        · rw [if_neg hx]
          simp [Memory.read, Ne.symm hx]
    · by_cases h2 : c.1 = a
      · by_cases hblk : v = blankByte
        · simp only [Memory.write, if_neg h1, if_pos h2, if_pos hblk]
          split
          · subst_vars; exact Memory.read_below hm (by omega)
          · rename_i hx
            have : c.1 ≠ x := by omega
            simp [Memory.read, this]
        · simp only [Memory.write, if_neg h1, if_pos h2, if_neg hblk]
          by_cases hx : x = a
          · simp [Memory.read, hx]
          · have : c.1 ≠ x := by omega
            simp [Memory.read, Ne.symm hx, hx, this]
      · simp only [Memory.write, if_neg h1, if_neg h2, Memory.read, ih]
        by_cases hx : x = a
        · have : c.1 ≠ x := by omega
          simp [hx, h2]
        · simp [hx]

/-! ### Runs of bytes -/

theorem Memory.writeBytes_wf {m : Memory} {bytes : List Byte} {a : Nat} (w : Memory.wf m = true) :
    Memory.wf (Memory.writeBytes m a bytes) = true := by
  induction bytes generalizing m a with
  | nil => exact w
  | cons v vs ih => exact ih (Memory.write_wf w)

/-- A read after bytes were written from `a` on. -/
theorem Memory.read_writeBytes {m : Memory} (w : Memory.wf m = true) (a x : Nat) (bytes : List Byte) :
    Memory.read (Memory.writeBytes m a bytes) x =
      if a ≤ x ∧ x < a + bytes.length then bytes.getD (x - a) 0 else Memory.read m x := by
  induction bytes generalizing m a with
  | nil => simp [Memory.writeBytes]
  | cons v vs ih =>
    rw [Memory.writeBytes, ih (Memory.write_wf w), Memory.read_write w]
    by_cases h1 : a + 1 ≤ x ∧ x < a + 1 + vs.length
    · have h2 : a ≤ x ∧ x < a + (v :: vs).length := ⟨by omega, by simp only [List.length_cons]; omega⟩
      obtain ⟨k, rfl⟩ : ∃ k, x = a + 1 + k := ⟨x - (a + 1), by omega⟩
      have e1 : a + 1 + k - a = k + 1 := by omega
      have e2 : a + 1 + k - (a + 1) = k := by omega
      rw [if_pos h1, if_pos h2, e1, e2]
      rfl
    · rw [if_neg h1]
      by_cases hx : x = a
      · have h2 : a ≤ x ∧ x < a + (v :: vs).length := ⟨by omega, by simp only [List.length_cons]; omega⟩
        rw [if_pos hx, if_pos h2, hx, Nat.sub_self]
        rfl
      · have h2 : ¬ (a ≤ x ∧ x < a + (v :: vs).length) := by simp only [List.length_cons]; omega
        rw [if_neg hx, if_neg h2]

theorem Memory.fill_wf {m : Memory} {a n : Nat} {f : Nat → Byte} (w : Memory.wf m = true) :
    Memory.wf (Memory.fill m a n f) = true := Memory.writeBytes_wf w

/-- A read after a range was filled. -/
theorem Memory.read_fill {m : Memory} (w : Memory.wf m = true) (a n x : Nat) (f : Nat → Byte) :
    Memory.read (Memory.fill m a n f) x = if a ≤ x ∧ x < a + n then f x else Memory.read m x := by
  rw [Memory.fill, Memory.read_writeBytes w]
  simp only [List.length_map, List.length_range]
  by_cases h : a ≤ x ∧ x < a + n
  · rw [if_pos h, if_pos h, List.getD_eq_getElem?_getD, List.getElem?_map,
      List.getElem?_range (by omega)]
    simp only [Option.map_some, Option.getD_some]
    congr 1; omega
  · rw [if_neg h, if_neg h]

/-! ### Erases -/

theorem Memory.erase_wfAbove {b : Nat} {m : Memory} (a n : Nat) (w : Memory.wfAbove b m = true) :
    Memory.wfAbove b (Memory.erase m a n) = true := by
  induction m generalizing b with
  | nil => rfl
  | cons c m ih =>
    obtain ⟨hb, hv, hm⟩ := Memory.wfAbove_cons.1 w
    unfold Memory.erase
    rw [List.filter_cons]
    split
    · exact Memory.wfAbove_cons.2 ⟨hb, hv, ih hm⟩
    · exact Memory.wfAbove_mono (by omega) (ih hm)

theorem Memory.erase_wf {m : Memory} {a n : Nat} (w : Memory.wf m = true) : Memory.wf (Memory.erase m a n) = true :=
  Memory.erase_wfAbove a n w

/-- A read after a range was erased. -/
theorem Memory.read_erase {b : Nat} {m : Memory} (w : Memory.wfAbove b m = true) (a n x : Nat) :
    Memory.read (Memory.erase m a n) x = if a ≤ x ∧ x < a + n then blankByte else Memory.read m x := by
  induction m generalizing b with
  | nil => simp [Memory.erase, Memory.read]
  | cons c m ih =>
    obtain ⟨hb, hv, hm⟩ := Memory.wfAbove_cons.1 w
    have ih := ih hm
    unfold Memory.erase at ih ⊢
    rw [List.filter_cons]
    by_cases keep : c.1 < a ∨ a + n ≤ c.1
    · have hk : (decide (c.1 < a) || decide (a + n ≤ c.1)) = true := by simpa using keep
      rw [if_pos hk]
      by_cases hx : c.1 = x
      · have : ¬ (a ≤ x ∧ x < a + n) := by omega
        simp [Memory.read, hx, this]
      · simp [Memory.read, hx, ih]
    · have hk : ¬ (decide (c.1 < a) || decide (a + n ≤ c.1)) = true := by simpa using keep
      rw [if_neg hk, ih]
      by_cases hx : c.1 = x
      · have : a ≤ x ∧ x < a + n := by omega
        simp [this]
      · simp [Memory.read, hx]

theorem Memory.eraseBlock_wf {m : Memory} {block : Nat} (w : Memory.wf m = true) :
    Memory.wf (Memory.eraseBlock m block) = true := Memory.erase_wf w

/-- A read after a block was erased. -/
theorem Memory.read_eraseBlock {m : Memory} (w : Memory.wf m = true) (block x : Nat) :
    Memory.read (Memory.eraseBlock m block) x =
      if block * 4096 ≤ x ∧ x < (block + 1) * 4096 then blankByte else Memory.read m x := by
  rw [Memory.eraseBlock, Memory.read_erase w]
  have e1 : slotAddress block 0 = block * 4096 := by simp [slotAddress, blockBytes, blockSlots, slotBytes]
  have e2 : slotAddress block 0 + blockBytes = (block + 1) * 4096 := by
    rw [e1]; simp only [blockBytes, blockSlots, slotBytes]; ring
  rw [e2, e1]

theorem Memory.eraseBlocks_wf {m : Memory} {blocks : List Nat} (w : Memory.wf m = true) :
    Memory.wf (blocks.foldl Memory.eraseBlock m) = true := by
  induction blocks generalizing m with
  | nil => exact w
  | cons b bs ih => exact ih (Memory.eraseBlock_wf w)

/-! ### Operations cut short -/

theorem Memory.tornWrite_wf {m : Memory} {k a : Nat} {bytes : List Byte} (w : Memory.wf m = true) :
    Memory.wf (Memory.tornWrite m k a bytes) = true := by
  unfold Memory.tornWrite
  dsimp only
  split
  · exact Memory.fill_wf (Memory.writeBytes_wf w)
  · exact Memory.writeBytes_wf w

/-- A write of whole slots that was cut short changes no byte outside them. -/
theorem Memory.read_tornWrite {m : Memory} (w : Memory.wf m = true) (k a x : Nat) (bytes : List Byte)
    (hl : bytes.length % slotBytes = 0) (hx : x < a ∨ a + bytes.length ≤ x) :
    Memory.read (Memory.tornWrite m k a bytes) x = Memory.read m x := by
  unfold Memory.tornWrite
  have e : slotBytes = 32 := rfl
  generalize hw : Config.wholeSlots k % (bytes.length / slotBytes + 1) = whole
  have hle : whole * 32 ≤ bytes.length := by
    have : whole < bytes.length / slotBytes + 1 := hw ▸ Nat.mod_lt _ (Nat.succ_pos _)
    rw [e] at this
    omega
  rw [e] at hl ⊢
  dsimp only
  split
  · rw [Memory.read_fill (Memory.writeBytes_wf w), if_neg (by omega), Memory.read_writeBytes w,
      List.length_take, if_neg (by omega)]
  · rw [Memory.read_writeBytes w, List.length_take, if_neg (by omega)]

theorem Memory.tornPad_wf {m : Memory} {k a n : Nat} (w : Memory.wf m = true) :
    Memory.wf (Memory.tornPad m k a n) = true := by
  induction n with
  | zero => exact w
  | succ n ih =>
    unfold Memory.tornPad
    dsimp only
    split
    · exact Memory.writeBytes_wf ih
    · exact ih

/-- Whatever was cut short, the array stays canonical. -/
theorem Store.tornArray_wf {t : Store} {k : Nat} {op : InFlight} (w : Memory.wf t.array = true) :
    Memory.wf (t.tornArray k op) = true := by
  cases op with
  | recordWrite _ _ => exact Memory.tornWrite_wf w
  | epochWrite _ _ => exact Memory.tornWrite_wf w
  | padFill => exact Memory.tornPad_wf w
  | eraseBlock _ => exact Memory.fill_wf w
  | resetErase _ => exact Memory.fill_wf w

end Sys2Proof.Machine
end

