-- ==== Sys2Proof/Laws/Bytes.lean ====
section
/-! SUPPORT. Laws of the byte-level helpers: lengths, and that a number laid out reads back (R170). -/

namespace Sys2Proof.Machine

/-- A number's bytes are as many as asked for. -/
@[simp] theorem leBytes_length (w n : Nat) : (leBytes w n).length = w := by
  induction w generalizing n with
  | zero => rfl
  | succ w ih => simp [leBytes, ih]

/-- A signed number's bytes are as many as asked for. -/
@[simp] theorem leSigned_length (w : Nat) (x : Int) : (leSigned w x).length = w := leBytes_length _ _

/-- The bytes of a number spell the number, less its bits past their width (R170). -/
theorem fromLe_leBytes (w n : Nat) : fromLe (leBytes w n) = n % 256 ^ w := by
  induction w generalizing n with
  | zero => simp [leBytes, fromLe, Nat.mod_one]
  | succ w ih =>
    simp only [leBytes, fromLe, ih, BitVec.toNat_ofNat]
    rw [show 2 ^ 8 = 256 from rfl, Nat.pow_succ, Nat.mul_comm (256 ^ w) 256, Nat.mod_mul]

/-- Bytes spell a number below the power of their length. -/
theorem fromLe_lt (bytes : List Byte) : fromLe bytes < 256 ^ bytes.length := by
  induction bytes with
  | nil => simp [fromLe]
  | cons b bs ih =>
    have := b.isLt
    simp only [fromLe, List.length_cons, Nat.pow_succ]
    omega

/-- A field that stands after `before`, laid out in its own width, reads back (R170). -/
theorem fieldAt_append (before after : List Byte) (w n : Nat) :
    fieldAt (before ++ (leBytes w n ++ after)) before.length w = n % 256 ^ w := by
  simp [fieldAt, fromLe_leBytes]

/-- A field at the head of the bytes reads back (R170). -/
theorem fieldAt_head (after : List Byte) (w n : Nat) : fieldAt (leBytes w n ++ after) 0 w = n % 256 ^ w := by
  simpa using fieldAt_append [] after w n

/-- The exclusive-or of bytes one of which is set apart. -/
theorem byteXor_append_one (bytes : List Byte) (b : Byte) : byteXor (bytes ++ [b]) = byteXor bytes ^^^ b := by
  simp [byteXor]

/-- Bytes filled up to a length that they do not exceed have that length (R172). -/
theorem padTo_length (n : Nat) (bytes : List Byte) (h : bytes.length ≤ n) : (padTo n bytes).length = n := by
  simp [padTo]
  omega

/-- A pair of a LODGE has five bytes (R174). -/
@[simp] theorem pairBytes_length (r : RawPair) : (pairBytes r).length = 5 := by simp [pairBytes]

/-- The pairs of a LODGE have five bytes each (R174). -/
theorem flatMap_pairBytes_length (pairs : List RawPair) : (pairs.flatMap pairBytes).length = 5 * pairs.length := by
  induction pairs with
  | nil => rfl
  | cons r rs ih =>
    simp only [List.flatMap_cons, List.length_append, pairBytes_length, ih, List.length_cons]
    omega

/-- A request frame has five bytes beside its parameters (R174). -/
@[simp] theorem requestFrame_length (p : Port) (code tag : Byte) (params : List Byte) :
    (requestFrame p code tag params).length = params.length + 5 := by
  simp [requestFrame]
  omega

end Sys2Proof.Machine
end

