-- ==== Sys2Proof/Laws/State.lean ====
section
/-! SUPPORT. What each named update of the state does to each field: one lemma per field per update. -/

namespace Sys2Proof.Machine

open Sys2Proof

/-! ### Ports -/

@[simp] theorem State.setPort_link (s : State) (p : Port) (t : PortState) :
    (s.setPort p t).link = s.link := by cases p <;> rfl
@[simp] theorem State.setPort_tracker (s : State) (p : Port) (t : PortState) :
    (s.setPort p t).tracker = s.tracker := by cases p <;> rfl
@[simp] theorem State.setPort_engine (s : State) (p : Port) (t : PortState) :
    (s.setPort p t).engine = s.engine := by cases p <;> rfl
@[simp] theorem State.setPort_reduction (s : State) (p : Port) (t : PortState) :
    (s.setPort p t).reduction = s.reduction := by cases p <;> rfl
@[simp] theorem State.setPort_swell (s : State) (p : Port) (t : PortState) :
    (s.setPort p t).swell = s.swell := by cases p <;> rfl
@[simp] theorem State.setPort_gap (s : State) (p : Port) (t : PortState) :
    (s.setPort p t).gap = s.gap := by cases p <;> rfl
@[simp] theorem State.setPort_estimator (s : State) (p : Port) (t : PortState) :
    (s.setPort p t).estimator = s.estimator := by cases p <;> rfl
@[simp] theorem State.setPort_builder (s : State) (p : Port) (t : PortState) :
    (s.setPort p t).builder = s.builder := by cases p <;> rfl
@[simp] theorem State.setPort_matrix (s : State) (p : Port) (t : PortState) :
    (s.setPort p t).matrix = s.matrix := by cases p <;> rfl
@[simp] theorem State.setPort_aggregator (s : State) (p : Port) (t : PortState) :
    (s.setPort p t).aggregator = s.aggregator := by cases p <;> rfl
@[simp] theorem State.setPort_store (s : State) (p : Port) (t : PortState) :
    (s.setPort p t).store = s.store := by cases p <;> rfl
@[simp] theorem State.setPort_bank (s : State) (p : Port) (t : PortState) :
    (s.setPort p t).bank = s.bank := by cases p <;> rfl
@[simp] theorem State.setPort_monitor (s : State) (p : Port) (t : PortState) :
    (s.setPort p t).monitor = s.monitor := by cases p <;> rfl
@[simp] theorem State.setPort_freeCount (s : State) (p : Port) (t : PortState) :
    (s.setPort p t).freeCount = s.freeCount := by cases p <;> rfl
@[simp] theorem State.setPort_pending (s : State) (p : Port) (t : PortState) :
    (s.setPort p t).pending = s.pending := by cases p <;> rfl
@[simp] theorem State.setPort_port (s : State) (p : Port) (t : PortState) :
    (s.setPort p t).port p = t := by cases p <;> rfl
@[simp] theorem State.setPort_port_other (s : State) (p : Port) (t : PortState) :
    (s.setPort p t).port p.other = s.port p.other := by cases p <;> rfl
@[simp] theorem State.setPort_setPort (s : State) (p : Port) (t u : PortState) :
    (s.setPort p t).setPort p u = s.setPort p u := by cases p <;> rfl
@[simp] theorem State.setPort_same (s : State) (p : Port) :
    s.setPort p (s.port p) = s := by cases p <;> rfl
@[simp] theorem Port.other_other (p : Port) :
    p.other.other = p := by cases p <;> rfl
@[simp] theorem Port.other_ne (p : Port) :
    p.other ≠ p := by cases p <;> decide
@[simp] theorem State.onPort_link (s : State) (p : Port) (g : PortState → PortState) :
    (s.onPort p g).link = s.link := by cases p <;> rfl
@[simp] theorem State.onPort_tracker (s : State) (p : Port) (g : PortState → PortState) :
    (s.onPort p g).tracker = s.tracker := by cases p <;> rfl
@[simp] theorem State.onPort_engine (s : State) (p : Port) (g : PortState → PortState) :
    (s.onPort p g).engine = s.engine := by cases p <;> rfl
@[simp] theorem State.onPort_reduction (s : State) (p : Port) (g : PortState → PortState) :
    (s.onPort p g).reduction = s.reduction := by cases p <;> rfl
@[simp] theorem State.onPort_swell (s : State) (p : Port) (g : PortState → PortState) :
    (s.onPort p g).swell = s.swell := by cases p <;> rfl
@[simp] theorem State.onPort_gap (s : State) (p : Port) (g : PortState → PortState) :
    (s.onPort p g).gap = s.gap := by cases p <;> rfl
@[simp] theorem State.onPort_estimator (s : State) (p : Port) (g : PortState → PortState) :
    (s.onPort p g).estimator = s.estimator := by cases p <;> rfl
@[simp] theorem State.onPort_builder (s : State) (p : Port) (g : PortState → PortState) :
    (s.onPort p g).builder = s.builder := by cases p <;> rfl
@[simp] theorem State.onPort_matrix (s : State) (p : Port) (g : PortState → PortState) :
    (s.onPort p g).matrix = s.matrix := by cases p <;> rfl
@[simp] theorem State.onPort_aggregator (s : State) (p : Port) (g : PortState → PortState) :
    (s.onPort p g).aggregator = s.aggregator := by cases p <;> rfl
@[simp] theorem State.onPort_store (s : State) (p : Port) (g : PortState → PortState) :
    (s.onPort p g).store = s.store := by cases p <;> rfl
@[simp] theorem State.onPort_bank (s : State) (p : Port) (g : PortState → PortState) :
    (s.onPort p g).bank = s.bank := by cases p <;> rfl
@[simp] theorem State.onPort_monitor (s : State) (p : Port) (g : PortState → PortState) :
    (s.onPort p g).monitor = s.monitor := by cases p <;> rfl
@[simp] theorem State.onPort_freeCount (s : State) (p : Port) (g : PortState → PortState) :
    (s.onPort p g).freeCount = s.freeCount := by cases p <;> rfl
@[simp] theorem State.onPort_pending (s : State) (p : Port) (g : PortState → PortState) :
    (s.onPort p g).pending = s.pending := by cases p <;> rfl
@[simp] theorem State.onPort_port (s : State) (p : Port) (g : PortState → PortState) :
    (s.onPort p g).port p = g (s.port p) := by cases p <;> rfl
@[simp] theorem State.onPort_port_other (s : State) (p : Port) (g : PortState → PortState) :
    (s.onPort p g).port p.other = s.port p.other := by cases p <;> rfl

/-- A change of one port is a replacement of it. -/
theorem State.onPort_eq (s : State) (p : Port) (g : PortState → PortState) :
    s.onPort p g = s.setPort p (g (s.port p)) := rfl

@[simp] theorem State.onPorts_link (s : State) (g : PortState → PortState) :
    (s.onPorts g).link = s.link := rfl
@[simp] theorem State.onPorts_tracker (s : State) (g : PortState → PortState) :
    (s.onPorts g).tracker = s.tracker := rfl
@[simp] theorem State.onPorts_engine (s : State) (g : PortState → PortState) :
    (s.onPorts g).engine = s.engine := rfl
@[simp] theorem State.onPorts_reduction (s : State) (g : PortState → PortState) :
    (s.onPorts g).reduction = s.reduction := rfl
@[simp] theorem State.onPorts_swell (s : State) (g : PortState → PortState) :
    (s.onPorts g).swell = s.swell := rfl
@[simp] theorem State.onPorts_gap (s : State) (g : PortState → PortState) :
    (s.onPorts g).gap = s.gap := rfl
@[simp] theorem State.onPorts_estimator (s : State) (g : PortState → PortState) :
    (s.onPorts g).estimator = s.estimator := rfl
@[simp] theorem State.onPorts_builder (s : State) (g : PortState → PortState) :
    (s.onPorts g).builder = s.builder := rfl
@[simp] theorem State.onPorts_matrix (s : State) (g : PortState → PortState) :
    (s.onPorts g).matrix = s.matrix := rfl
@[simp] theorem State.onPorts_aggregator (s : State) (g : PortState → PortState) :
    (s.onPorts g).aggregator = s.aggregator := rfl
@[simp] theorem State.onPorts_store (s : State) (g : PortState → PortState) :
    (s.onPorts g).store = s.store := rfl
@[simp] theorem State.onPorts_bank (s : State) (g : PortState → PortState) :
    (s.onPorts g).bank = s.bank := rfl
@[simp] theorem State.onPorts_monitor (s : State) (g : PortState → PortState) :
    (s.onPorts g).monitor = s.monitor := rfl
@[simp] theorem State.onPorts_operator (s : State) (g : PortState → PortState) :
    (s.onPorts g).operator = g s.operator := rfl
@[simp] theorem State.onPorts_consumer (s : State) (g : PortState → PortState) :
    (s.onPorts g).consumer = g s.consumer := rfl
@[simp] theorem State.onPorts_freeCount (s : State) (g : PortState → PortState) :
    (s.onPorts g).freeCount = s.freeCount := rfl
@[simp] theorem State.onPorts_pending (s : State) (g : PortState → PortState) :
    (s.onPorts g).pending = s.pending := rfl
@[simp] theorem State.onPorts_port (s : State) (g : PortState → PortState) (p : Port) :
    (s.onPorts g).port p = g (s.port p) := by cases p <;> rfl

/-! ### Slots -/

@[simp] theorem Bank.setSlot_slot (b : Bank) (p : Port) (x : Option Proposal) :
    (b.setSlot p x).slot p = x := by cases p <;> rfl
@[simp] theorem Bank.setSlot_slot_other (b : Bank) (p : Port) (x : Option Proposal) :
    (b.setSlot p x).slot p.other = b.slot p.other := by cases p <;> rfl
@[simp] theorem Bank.setSlot_inForce (b : Bank) (p : Port) (x : Option Proposal) :
    (b.setSlot p x).inForce = b.inForce := by cases p <;> rfl
@[simp] theorem Bank.setSlot_area (b : Bank) (p : Port) (x : Option Proposal) :
    (b.setSlot p x).area = b.area := by cases p <;> rfl
@[simp] theorem Bank.setSlot_areaWrites (b : Bank) (p : Port) (x : Option Proposal) :
    (b.setSlot p x).areaWrites = b.areaWrites := by cases p <;> rfl
@[simp] theorem Bank.emptied_inForce (b : Bank) :
    b.emptied.inForce = b.inForce := rfl
@[simp] theorem Bank.emptied_area (b : Bank) :
    b.emptied.area = b.area := rfl
@[simp] theorem Bank.emptied_areaWrites (b : Bank) :
    b.emptied.areaWrites = b.areaWrites := rfl
@[simp] theorem Bank.emptied_slot (b : Bank) (p : Port) :
    b.emptied.slot p = none := by cases p <;> rfl

/-! ### The counter of free values, the waiting commands, the monitor, the settings area -/

@[simp] theorem State.useFree_link (s : State) :
    (s.useFree).link = s.link := rfl
@[simp] theorem State.useFree_tracker (s : State) :
    (s.useFree).tracker = s.tracker := rfl
@[simp] theorem State.useFree_engine (s : State) :
    (s.useFree).engine = s.engine := rfl
@[simp] theorem State.useFree_reduction (s : State) :
    (s.useFree).reduction = s.reduction := rfl
@[simp] theorem State.useFree_swell (s : State) :
    (s.useFree).swell = s.swell := rfl
@[simp] theorem State.useFree_gap (s : State) :
    (s.useFree).gap = s.gap := rfl
@[simp] theorem State.useFree_estimator (s : State) :
    (s.useFree).estimator = s.estimator := rfl
@[simp] theorem State.useFree_builder (s : State) :
    (s.useFree).builder = s.builder := rfl
@[simp] theorem State.useFree_matrix (s : State) :
    (s.useFree).matrix = s.matrix := rfl
@[simp] theorem State.useFree_aggregator (s : State) :
    (s.useFree).aggregator = s.aggregator := rfl
@[simp] theorem State.useFree_store (s : State) :
    (s.useFree).store = s.store := rfl
@[simp] theorem State.useFree_bank (s : State) :
    (s.useFree).bank = s.bank := rfl
@[simp] theorem State.useFree_monitor (s : State) :
    (s.useFree).monitor = s.monitor := rfl
@[simp] theorem State.useFree_operator (s : State) :
    (s.useFree).operator = s.operator := rfl
@[simp] theorem State.useFree_consumer (s : State) :
    (s.useFree).consumer = s.consumer := rfl
@[simp] theorem State.useFree_pending (s : State) :
    (s.useFree).pending = s.pending := rfl
@[simp] theorem State.withPending_link (s : State) (q : List Instr) :
    (s.withPending q).link = s.link := rfl
@[simp] theorem State.withPending_tracker (s : State) (q : List Instr) :
    (s.withPending q).tracker = s.tracker := rfl
@[simp] theorem State.withPending_engine (s : State) (q : List Instr) :
    (s.withPending q).engine = s.engine := rfl
@[simp] theorem State.withPending_reduction (s : State) (q : List Instr) :
    (s.withPending q).reduction = s.reduction := rfl
@[simp] theorem State.withPending_swell (s : State) (q : List Instr) :
    (s.withPending q).swell = s.swell := rfl
@[simp] theorem State.withPending_gap (s : State) (q : List Instr) :
    (s.withPending q).gap = s.gap := rfl
@[simp] theorem State.withPending_estimator (s : State) (q : List Instr) :
    (s.withPending q).estimator = s.estimator := rfl
@[simp] theorem State.withPending_builder (s : State) (q : List Instr) :
    (s.withPending q).builder = s.builder := rfl
@[simp] theorem State.withPending_matrix (s : State) (q : List Instr) :
    (s.withPending q).matrix = s.matrix := rfl
@[simp] theorem State.withPending_aggregator (s : State) (q : List Instr) :
    (s.withPending q).aggregator = s.aggregator := rfl
@[simp] theorem State.withPending_store (s : State) (q : List Instr) :
    (s.withPending q).store = s.store := rfl
@[simp] theorem State.withPending_bank (s : State) (q : List Instr) :
    (s.withPending q).bank = s.bank := rfl
@[simp] theorem State.withPending_monitor (s : State) (q : List Instr) :
    (s.withPending q).monitor = s.monitor := rfl
@[simp] theorem State.withPending_operator (s : State) (q : List Instr) :
    (s.withPending q).operator = s.operator := rfl
@[simp] theorem State.withPending_consumer (s : State) (q : List Instr) :
    (s.withPending q).consumer = s.consumer := rfl
@[simp] theorem State.withPending_freeCount (s : State) (q : List Instr) :
    (s.withPending q).freeCount = s.freeCount := rfl
@[simp] theorem State.onMonitor_link (s : State) (g : Monitor → Monitor) :
    (s.onMonitor g).link = s.link := rfl
@[simp] theorem State.onMonitor_tracker (s : State) (g : Monitor → Monitor) :
    (s.onMonitor g).tracker = s.tracker := rfl
@[simp] theorem State.onMonitor_engine (s : State) (g : Monitor → Monitor) :
    (s.onMonitor g).engine = s.engine := rfl
@[simp] theorem State.onMonitor_reduction (s : State) (g : Monitor → Monitor) :
    (s.onMonitor g).reduction = s.reduction := rfl
@[simp] theorem State.onMonitor_swell (s : State) (g : Monitor → Monitor) :
    (s.onMonitor g).swell = s.swell := rfl
@[simp] theorem State.onMonitor_gap (s : State) (g : Monitor → Monitor) :
    (s.onMonitor g).gap = s.gap := rfl
@[simp] theorem State.onMonitor_estimator (s : State) (g : Monitor → Monitor) :
    (s.onMonitor g).estimator = s.estimator := rfl
@[simp] theorem State.onMonitor_builder (s : State) (g : Monitor → Monitor) :
    (s.onMonitor g).builder = s.builder := rfl
@[simp] theorem State.onMonitor_matrix (s : State) (g : Monitor → Monitor) :
    (s.onMonitor g).matrix = s.matrix := rfl
@[simp] theorem State.onMonitor_aggregator (s : State) (g : Monitor → Monitor) :
    (s.onMonitor g).aggregator = s.aggregator := rfl
@[simp] theorem State.onMonitor_store (s : State) (g : Monitor → Monitor) :
    (s.onMonitor g).store = s.store := rfl
@[simp] theorem State.onMonitor_bank (s : State) (g : Monitor → Monitor) :
    (s.onMonitor g).bank = s.bank := rfl
@[simp] theorem State.onMonitor_operator (s : State) (g : Monitor → Monitor) :
    (s.onMonitor g).operator = s.operator := rfl
@[simp] theorem State.onMonitor_consumer (s : State) (g : Monitor → Monitor) :
    (s.onMonitor g).consumer = s.consumer := rfl
@[simp] theorem State.onMonitor_freeCount (s : State) (g : Monitor → Monitor) :
    (s.onMonitor g).freeCount = s.freeCount := rfl
@[simp] theorem State.onMonitor_pending (s : State) (g : Monitor → Monitor) :
    (s.onMonitor g).pending = s.pending := rfl
@[simp] theorem State.writeArea_link (s : State) (w : AreaWrite) :
    (s.writeArea w).link = s.link := rfl
@[simp] theorem State.writeArea_tracker (s : State) (w : AreaWrite) :
    (s.writeArea w).tracker = s.tracker := rfl
@[simp] theorem State.writeArea_engine (s : State) (w : AreaWrite) :
    (s.writeArea w).engine = s.engine := rfl
@[simp] theorem State.writeArea_reduction (s : State) (w : AreaWrite) :
    (s.writeArea w).reduction = s.reduction := rfl
@[simp] theorem State.writeArea_swell (s : State) (w : AreaWrite) :
    (s.writeArea w).swell = s.swell := rfl
@[simp] theorem State.writeArea_gap (s : State) (w : AreaWrite) :
    (s.writeArea w).gap = s.gap := rfl
@[simp] theorem State.writeArea_estimator (s : State) (w : AreaWrite) :
    (s.writeArea w).estimator = s.estimator := rfl
@[simp] theorem State.writeArea_builder (s : State) (w : AreaWrite) :
    (s.writeArea w).builder = s.builder := rfl
@[simp] theorem State.writeArea_matrix (s : State) (w : AreaWrite) :
    (s.writeArea w).matrix = s.matrix := rfl
@[simp] theorem State.writeArea_aggregator (s : State) (w : AreaWrite) :
    (s.writeArea w).aggregator = s.aggregator := rfl
@[simp] theorem State.writeArea_store (s : State) (w : AreaWrite) :
    (s.writeArea w).store = s.store := rfl
@[simp] theorem State.writeArea_monitor (s : State) (w : AreaWrite) :
    (s.writeArea w).monitor = s.monitor := rfl
@[simp] theorem State.writeArea_operator (s : State) (w : AreaWrite) :
    (s.writeArea w).operator = s.operator := rfl
@[simp] theorem State.writeArea_consumer (s : State) (w : AreaWrite) :
    (s.writeArea w).consumer = s.consumer := rfl
@[simp] theorem State.writeArea_freeCount (s : State) (w : AreaWrite) :
    (s.writeArea w).freeCount = s.freeCount := rfl
@[simp] theorem State.writeArea_pending (s : State) (w : AreaWrite) :
    (s.writeArea w).pending = s.pending := rfl
@[simp] theorem State.dropAreaWrites_link (s : State) :
    (s.dropAreaWrites).link = s.link := rfl
@[simp] theorem State.dropAreaWrites_tracker (s : State) :
    (s.dropAreaWrites).tracker = s.tracker := rfl
@[simp] theorem State.dropAreaWrites_engine (s : State) :
    (s.dropAreaWrites).engine = s.engine := rfl
@[simp] theorem State.dropAreaWrites_reduction (s : State) :
    (s.dropAreaWrites).reduction = s.reduction := rfl
@[simp] theorem State.dropAreaWrites_swell (s : State) :
    (s.dropAreaWrites).swell = s.swell := rfl
@[simp] theorem State.dropAreaWrites_gap (s : State) :
    (s.dropAreaWrites).gap = s.gap := rfl
@[simp] theorem State.dropAreaWrites_estimator (s : State) :
    (s.dropAreaWrites).estimator = s.estimator := rfl
@[simp] theorem State.dropAreaWrites_builder (s : State) :
    (s.dropAreaWrites).builder = s.builder := rfl
@[simp] theorem State.dropAreaWrites_matrix (s : State) :
    (s.dropAreaWrites).matrix = s.matrix := rfl
@[simp] theorem State.dropAreaWrites_aggregator (s : State) :
    (s.dropAreaWrites).aggregator = s.aggregator := rfl
@[simp] theorem State.dropAreaWrites_store (s : State) :
    (s.dropAreaWrites).store = s.store := rfl
@[simp] theorem State.dropAreaWrites_monitor (s : State) :
    (s.dropAreaWrites).monitor = s.monitor := rfl
@[simp] theorem State.dropAreaWrites_operator (s : State) :
    (s.dropAreaWrites).operator = s.operator := rfl
@[simp] theorem State.dropAreaWrites_consumer (s : State) :
    (s.dropAreaWrites).consumer = s.consumer := rfl
@[simp] theorem State.dropAreaWrites_freeCount (s : State) :
    (s.dropAreaWrites).freeCount = s.freeCount := rfl
@[simp] theorem State.dropAreaWrites_pending (s : State) :
    (s.dropAreaWrites).pending = s.pending := rfl
@[simp] theorem State.useFree_freeCount (s : State) :
    s.useFree.freeCount = s.freeCount + 1 := rfl
@[simp] theorem State.withPending_pending (s : State) (q : List Instr) :
    (s.withPending q).pending = q := rfl
@[simp] theorem State.withPending_withPending (s : State) (q r : List Instr) :
    (s.withPending q).withPending r = s.withPending r := rfl
@[simp] theorem State.onMonitor_monitor (s : State) (g : Monitor → Monitor) :
    (s.onMonitor g).monitor = g s.monitor := rfl
@[simp] theorem State.writeArea_areaWrites (s : State) (w : AreaWrite) :
    (s.writeArea w).bank.areaWrites = s.bank.areaWrites ++ [w] := rfl
@[simp] theorem State.writeArea_inForce (s : State) (w : AreaWrite) :
    (s.writeArea w).bank.inForce = s.bank.inForce := rfl
@[simp] theorem State.writeArea_area (s : State) (w : AreaWrite) :
    (s.writeArea w).bank.area = s.bank.area := rfl
@[simp] theorem State.writeArea_slot (s : State) (w : AreaWrite) (p : Port) :
    (s.writeArea w).bank.slot p = s.bank.slot p := by cases p <;> rfl
@[simp] theorem State.dropAreaWrites_inForce (s : State) :
    s.dropAreaWrites.bank.inForce = s.bank.inForce := rfl
@[simp] theorem State.dropAreaWrites_slot (s : State) (p : Port) :
    s.dropAreaWrites.bank.slot p = s.bank.slot p := by cases p <;> rfl

/-! ### Lines judged, and what follows a change -/

@[simp] theorem State.judgeLines_link (s : State) :
    s.judgeLines.link = s.link := rfl
@[simp] theorem State.judgeLines_tracker (s : State) :
    s.judgeLines.tracker = s.tracker := rfl
@[simp] theorem State.judgeLines_engine (s : State) :
    s.judgeLines.engine = s.engine := rfl
@[simp] theorem State.judgeLines_reduction (s : State) :
    s.judgeLines.reduction = s.reduction := rfl
@[simp] theorem State.judgeLines_swell (s : State) :
    s.judgeLines.swell = s.swell := rfl
@[simp] theorem State.judgeLines_gap (s : State) :
    s.judgeLines.gap = s.gap := rfl
@[simp] theorem State.judgeLines_estimator (s : State) :
    s.judgeLines.estimator = s.estimator := rfl
@[simp] theorem State.judgeLines_builder (s : State) :
    s.judgeLines.builder = s.builder := rfl
@[simp] theorem State.judgeLines_matrix (s : State) :
    s.judgeLines.matrix = s.matrix := rfl
@[simp] theorem State.judgeLines_aggregator (s : State) :
    s.judgeLines.aggregator = s.aggregator := rfl
@[simp] theorem State.judgeLines_store (s : State) :
    s.judgeLines.store = s.store := rfl
@[simp] theorem State.judgeLines_bank (s : State) :
    s.judgeLines.bank = s.bank := rfl
@[simp] theorem State.judgeLines_monitor (s : State) :
    s.judgeLines.monitor = s.monitor := rfl
@[simp] theorem State.judgeLines_freeCount (s : State) :
    s.judgeLines.freeCount = s.freeCount := rfl
@[simp] theorem State.judgeLines_pending (s : State) :
    s.judgeLines.pending = s.pending := rfl
@[simp] theorem State.finish_link (s : State) :
    s.finish.link = s.link := rfl
@[simp] theorem State.finish_tracker (s : State) :
    s.finish.tracker = s.tracker := rfl
@[simp] theorem State.finish_engine (s : State) :
    s.finish.engine = s.engine := rfl
@[simp] theorem State.finish_reduction (s : State) :
    s.finish.reduction = s.reduction := rfl
@[simp] theorem State.finish_swell (s : State) :
    s.finish.swell = s.swell := rfl
@[simp] theorem State.finish_gap (s : State) :
    s.finish.gap = s.gap := rfl
@[simp] theorem State.finish_estimator (s : State) :
    s.finish.estimator = s.estimator := rfl
@[simp] theorem State.finish_builder (s : State) :
    s.finish.builder = s.builder := rfl
@[simp] theorem State.finish_matrix (s : State) :
    s.finish.matrix = s.matrix := rfl
@[simp] theorem State.finish_aggregator (s : State) :
    s.finish.aggregator = s.aggregator := rfl
@[simp] theorem State.finish_bank (s : State) :
    s.finish.bank = s.bank := rfl
@[simp] theorem State.finish_monitor (s : State) :
    s.finish.monitor = s.monitor := rfl
@[simp] theorem State.finish_freeCount (s : State) :
    s.finish.freeCount = s.freeCount := rfl
@[simp] theorem State.finish_pending (s : State) :
    s.finish.pending = s.pending := rfl
@[simp] theorem State.finish_store (s : State) :
    s.finish.store = s.store.settle := rfl
theorem State.judgeLines_port (s : State) (p : Port) :
    s.judgeLines.port p = { s.port p with attention := (s.judgeLines.port p).attention } := by cases p <;> rfl
theorem State.finish_port (s : State) (p : Port) :
    s.finish.port p = { s.port p with attention := (s.finish.port p).attention } := by cases p <;> rfl

/-! ### The store's updates -/

@[simp] theorem Store.settle_array (t : Store) :
    t.settle.array = t.array := rfl
@[simp] theorem Store.settle_blocks (t : Store) :
    t.settle.blocks = t.blocks := rfl
@[simp] theorem Store.settle_wpBlock (t : Store) :
    t.settle.wpBlock = t.wpBlock := rfl
@[simp] theorem Store.settle_wpSlot (t : Store) :
    t.settle.wpSlot = t.wpSlot := rfl
@[simp] theorem Store.settle_oldest (t : Store) :
    t.settle.oldest = t.oldest := rfl
@[simp] theorem Store.settle_newest (t : Store) :
    t.settle.newest = t.newest := rfl
@[simp] theorem Store.settle_newestChain (t : Store) :
    t.settle.newestChain = t.newestChain := rfl
@[simp] theorem Store.settle_queue (t : Store) :
    t.settle.queue = t.queue := rfl
@[simp] theorem Store.settle_state (t : Store) :
    t.settle.state = t.state := rfl
@[simp] theorem Store.settle_inFlight (t : Store) :
    t.settle.inFlight = t.inFlight := rfl
@[simp] theorem Store.settle_resetPhase (t : Store) :
    t.settle.resetPhase = t.resetPhase := rfl
@[simp] theorem Store.settle_episode (t : Store) :
    t.settle.episode = t.episode := rfl
@[simp] theorem Store.settle_releaseCheck (t : Store) :
    t.settle.releaseCheck = t.releaseCheck := rfl
@[simp] theorem Store.settle_epoch (t : Store) :
    t.settle.epoch = t.epoch := rfl
@[simp] theorem Store.settle_scanned (t : Store) :
    t.settle.scanned = t.scanned := rfl
@[simp] theorem Store.settle_lastServed (t : Store) :
    t.settle.lastServed = t.lastServed := rfl
@[simp] theorem Store.enqueue_array (t : Store) (r : Record) :
    (t.enqueue r).array = t.array := rfl
@[simp] theorem Store.enqueue_blocks (t : Store) (r : Record) :
    (t.enqueue r).blocks = t.blocks := rfl
@[simp] theorem Store.enqueue_wpBlock (t : Store) (r : Record) :
    (t.enqueue r).wpBlock = t.wpBlock := rfl
@[simp] theorem Store.enqueue_wpSlot (t : Store) (r : Record) :
    (t.enqueue r).wpSlot = t.wpSlot := rfl
@[simp] theorem Store.enqueue_oldest (t : Store) (r : Record) :
    (t.enqueue r).oldest = t.oldest := rfl
@[simp] theorem Store.enqueue_newest (t : Store) (r : Record) :
    (t.enqueue r).newest = t.newest := rfl
@[simp] theorem Store.enqueue_newestChain (t : Store) (r : Record) :
    (t.enqueue r).newestChain = t.newestChain := rfl
@[simp] theorem Store.enqueue_state (t : Store) (r : Record) :
    (t.enqueue r).state = t.state := rfl
@[simp] theorem Store.enqueue_pendingOp (t : Store) (r : Record) :
    (t.enqueue r).pendingOp = t.pendingOp := rfl
@[simp] theorem Store.enqueue_inFlight (t : Store) (r : Record) :
    (t.enqueue r).inFlight = t.inFlight := rfl
@[simp] theorem Store.enqueue_resetPhase (t : Store) (r : Record) :
    (t.enqueue r).resetPhase = t.resetPhase := rfl
@[simp] theorem Store.enqueue_episode (t : Store) (r : Record) :
    (t.enqueue r).episode = t.episode := rfl
@[simp] theorem Store.enqueue_releaseCheck (t : Store) (r : Record) :
    (t.enqueue r).releaseCheck = t.releaseCheck := rfl
@[simp] theorem Store.enqueue_epoch (t : Store) (r : Record) :
    (t.enqueue r).epoch = t.epoch := rfl
@[simp] theorem Store.enqueue_scanned (t : Store) (r : Record) :
    (t.enqueue r).scanned = t.scanned := rfl
@[simp] theorem Store.enqueue_lastServed (t : Store) (r : Record) :
    (t.enqueue r).lastServed = t.lastServed := rfl
@[simp] theorem Store.holdBack_array (t : Store) (now : Stamp) (r : Record) :
    (t.holdBack now r).array = t.array := rfl
@[simp] theorem Store.holdBack_blocks (t : Store) (now : Stamp) (r : Record) :
    (t.holdBack now r).blocks = t.blocks := rfl
@[simp] theorem Store.holdBack_wpBlock (t : Store) (now : Stamp) (r : Record) :
    (t.holdBack now r).wpBlock = t.wpBlock := rfl
@[simp] theorem Store.holdBack_wpSlot (t : Store) (now : Stamp) (r : Record) :
    (t.holdBack now r).wpSlot = t.wpSlot := rfl
@[simp] theorem Store.holdBack_oldest (t : Store) (now : Stamp) (r : Record) :
    (t.holdBack now r).oldest = t.oldest := rfl
@[simp] theorem Store.holdBack_newest (t : Store) (now : Stamp) (r : Record) :
    (t.holdBack now r).newest = t.newest := rfl
@[simp] theorem Store.holdBack_newestChain (t : Store) (now : Stamp) (r : Record) :
    (t.holdBack now r).newestChain = t.newestChain := rfl
@[simp] theorem Store.holdBack_queue (t : Store) (now : Stamp) (r : Record) :
    (t.holdBack now r).queue = t.queue := rfl
@[simp] theorem Store.holdBack_state (t : Store) (now : Stamp) (r : Record) :
    (t.holdBack now r).state = t.state := rfl
@[simp] theorem Store.holdBack_pendingOp (t : Store) (now : Stamp) (r : Record) :
    (t.holdBack now r).pendingOp = t.pendingOp := rfl
@[simp] theorem Store.holdBack_inFlight (t : Store) (now : Stamp) (r : Record) :
    (t.holdBack now r).inFlight = t.inFlight := rfl
@[simp] theorem Store.holdBack_resetPhase (t : Store) (now : Stamp) (r : Record) :
    (t.holdBack now r).resetPhase = t.resetPhase := rfl
@[simp] theorem Store.holdBack_releaseCheck (t : Store) (now : Stamp) (r : Record) :
    (t.holdBack now r).releaseCheck = t.releaseCheck := rfl
@[simp] theorem Store.holdBack_epoch (t : Store) (now : Stamp) (r : Record) :
    (t.holdBack now r).epoch = t.epoch := rfl
@[simp] theorem Store.holdBack_scanned (t : Store) (now : Stamp) (r : Record) :
    (t.holdBack now r).scanned = t.scanned := rfl
@[simp] theorem Store.holdBack_lastServed (t : Store) (now : Stamp) (r : Record) :
    (t.holdBack now r).lastServed = t.lastServed := rfl

end Sys2Proof.Machine
end

