-- ==== Sys2Proof/Laws/Ops.lean ====
section
/-! SUPPORT. What each shared operation can do, said once: handing records over, a window, sets handed on, the lines judged
afresh, and a request taken and answered. -/

namespace Sys2Proof.Machine

open Sys2Proof

/-! ### Records handed over -/

/-- `u` is the store `t` after it took records: its queue grew at its end, within its size, its episode may have opened or
counted, and its pending operation is brought up to date. -/
structure StoreTakes (t u : Store) : Prop where
  rest : u = { t with queue := u.queue, episode := u.episode, pendingOp := u.pendingOp }
  bounded : t.queue.length ≤ queueCapacity → u.queue.length ≤ queueCapacity
  grows : ∃ later, u.queue = t.queue ++ later

theorem StoreTakes.refl (t : Store) : StoreTakes t t := ⟨rfl, id, [], by simp⟩

theorem StoreTakes.trans {t u v : Store} (h : StoreTakes t u) (k : StoreTakes u v) : StoreTakes t v := by
  obtain ⟨hr, hb, x, hx⟩ := h
  obtain ⟨kr, kb, y, ky⟩ := k
  refine ⟨?_, fun z => kb (hb z), x ++ y, by rw [ky, hx, List.append_assoc]⟩
  rw [kr, hr]

theorem Store.take_takes (t : Store) (now : Stamp) (r : Record) : StoreTakes t ((t.take now r).settle) := by
  unfold Store.take
  split
  · refine ⟨rfl, fun _ => ?_, _, rfl⟩
    have h : t.queue.length < queueCapacity := by simp_all [Store.accepts, Store.hasRoom]
    simpa [Store.settle, Store.enqueue] using h
  · exact ⟨rfl, id, [], by simp [Store.settle]⟩

/-- The matrix keeps its number of cells, and every cell its width. -/
theorem countRecord_sound {cells : List Nat} {r : Record} (h : cells.length = 31 ∧ ∀ n ∈ cells, n ≤ max32) :
    (countRecord cells r).length = 31 ∧ ∀ n ∈ countRecord cells r, n ≤ max32 := by
  unfold countRecord
  split
  · exact h
  · unfold bumpCell
    refine ⟨by simpa using h.1, fun n hn => ?_⟩
    rw [List.mem_iff_getElem?] at hn
    obtain ⟨j, hj⟩ := hn
    rw [List.getElem?_modify] at hj
    split at hj
    · cases hc : cells[j]? <;> simp [hc] at hj
      rw [← hj]; simp [saturate]
    · cases hc : cells[j]? <;> simp [hc] at hj
      exact hj ▸ h.2 _ (List.mem_of_getElem? hc)

/-- `t` is `s` after it handed records over: only the store, the matrix and the count of free values may differ. -/
structure Recorded (s t : State) : Prop where
  rest : t = { s with store := t.store, matrix := t.matrix, freeCount := t.freeCount }
  store : StoreTakes s.store t.store
  matrix : s.matrixSound → t.matrixSound

theorem Recorded.refl (s : State) : Recorded s s := ⟨rfl, StoreTakes.refl _, id⟩

theorem Recorded.trans {s t u : State} (h : Recorded s t) (k : Recorded t u) : Recorded s u := by
  refine ⟨?_, h.store.trans k.store, fun z => k.matrix (h.matrix z)⟩
  rw [k.rest, h.rest]

theorem State.handOver_recorded (s : State) (r : Record) : Recorded s (s.handOver r) :=
  ⟨rfl, Store.take_takes _ _ _, id⟩

theorem State.finalize_recorded (s : State) (r : Record) : Recorded s (s.finalize r) :=
  ⟨rfl, Store.take_takes _ _ _, countRecord_sound⟩

theorem State.finalizes_recorded (s : State) (records : List Record) : Recorded s (records.foldl State.finalize s) := by
  induction records generalizing s with
  | nil => exact Recorded.refl s
  | cons r rs ih => exact (s.finalize_recorded r).trans (ih _)

/-- Whatever order the records are taken in, they go to the store and the matrix alone. -/
theorem State.deliver_recorded (s : State) (records : List Record) : Recorded s (s.deliver records) := by
  unfold State.deliver
  split
  · exact s.finalizes_recorded records
  · exact (⟨rfl, StoreTakes.refl _, id⟩ : Recorded s s.useFree).trans (State.finalizes_recorded _ _)

@[simp] theorem State.deliver_nil (s : State) : s.deliver [] = s := rfl

@[simp] theorem State.deliver_one (s : State) (r : Record) : s.deliver [r] = s.finalize r := rfl

@[simp] theorem State.deliver_link (s : State) (rs : List Record) : (s.deliver rs).link = s.link := by
  rw [(s.deliver_recorded rs).rest]

@[simp] theorem State.deliver_tracker (s : State) (rs : List Record) : (s.deliver rs).tracker = s.tracker := by
  rw [(s.deliver_recorded rs).rest]

@[simp] theorem State.deliver_engine (s : State) (rs : List Record) : (s.deliver rs).engine = s.engine := by
  rw [(s.deliver_recorded rs).rest]

@[simp] theorem State.deliver_reduction (s : State) (rs : List Record) : (s.deliver rs).reduction = s.reduction := by
  rw [(s.deliver_recorded rs).rest]

@[simp] theorem State.deliver_swell (s : State) (rs : List Record) : (s.deliver rs).swell = s.swell := by
  rw [(s.deliver_recorded rs).rest]

@[simp] theorem State.deliver_gap (s : State) (rs : List Record) : (s.deliver rs).gap = s.gap := by
  rw [(s.deliver_recorded rs).rest]

@[simp] theorem State.deliver_estimator (s : State) (rs : List Record) : (s.deliver rs).estimator = s.estimator := by
  rw [(s.deliver_recorded rs).rest]

@[simp] theorem State.deliver_builder (s : State) (rs : List Record) : (s.deliver rs).builder = s.builder := by
  rw [(s.deliver_recorded rs).rest]

@[simp] theorem State.deliver_aggregator (s : State) (rs : List Record) : (s.deliver rs).aggregator = s.aggregator := by
  rw [(s.deliver_recorded rs).rest]

@[simp] theorem State.deliver_bank (s : State) (rs : List Record) : (s.deliver rs).bank = s.bank := by
  rw [(s.deliver_recorded rs).rest]

@[simp] theorem State.deliver_monitor (s : State) (rs : List Record) : (s.deliver rs).monitor = s.monitor := by
  rw [(s.deliver_recorded rs).rest]

@[simp] theorem State.deliver_operator (s : State) (rs : List Record) : (s.deliver rs).operator = s.operator := by
  rw [(s.deliver_recorded rs).rest]

@[simp] theorem State.deliver_consumer (s : State) (rs : List Record) : (s.deliver rs).consumer = s.consumer := by
  rw [(s.deliver_recorded rs).rest]

@[simp] theorem State.deliver_pending (s : State) (rs : List Record) : (s.deliver rs).pending = s.pending := by
  rw [(s.deliver_recorded rs).rest]

@[simp] theorem State.deliver_port (s : State) (rs : List Record) (p : Port) : (s.deliver rs).port p = s.port p := by
  cases p <;> simp [State.port]

/-! ### Windows and sets -/

/-- `t` is `s` after the measuring blocks took sets and windows: the settings, the monitor, the ports and the waiting
commands are unchanged, and the store only took records. -/
structure Measured (s t : State) : Prop where
  bank : t.bank = s.bank
  monitor : t.monitor = s.monitor
  operator : t.operator = s.operator
  consumer : t.consumer = s.consumer
  pending : t.pending = s.pending
  store : StoreTakes s.store t.store
  matrix : s.matrixSound → t.matrixSound

theorem Measured.refl (s : State) : Measured s s := ⟨rfl, rfl, rfl, rfl, rfl, StoreTakes.refl _, id⟩

theorem Measured.trans {s t u : State} (h : Measured s t) (k : Measured t u) : Measured s u :=
  ⟨k.bank.trans h.bank, k.monitor.trans h.monitor, k.operator.trans h.operator, k.consumer.trans h.consumer,
    k.pending.trans h.pending, h.store.trans k.store, fun z => k.matrix (h.matrix z)⟩

/-- `Measured.trans` with its steps named from the last. -/
theorem Measured.after {s t u : State} (k : Measured t u) (h : Measured s t) : Measured s u := h.trans k

theorem Recorded.measured {s t : State} (h : Recorded s t) : Measured s t := by
  refine ⟨?_, ?_, ?_, ?_, ?_, h.store, h.matrix⟩ <;> rw [h.rest]

theorem State.invalidWindow_measured (s : State) (v : ValueSet) : Measured s (s.invalidWindow v) := by
  unfold State.invalidWindow
  dsimp only
  split <;> exact ⟨rfl, rfl, rfl, rfl, rfl, StoreTakes.refl _, id⟩

theorem State.validWindow_measured (s : State) (v : ValueSet) : Measured s (s.validWindow v) := by
  unfold State.validWindow
  exact (State.deliver_recorded _ _).measured.after ⟨rfl, rfl, rfl, rfl, rfl, StoreTakes.refl _, id⟩

theorem State.takeWindow_measured (s : State) (v : ValueSet) : Measured s (s.takeWindow v) := by
  unfold State.takeWindow
  split
  · exact s.validWindow_measured v
  · exact s.invalidWindow_measured v

/-- A burst expiry that is overdue changes the builder, the store, the matrix and the count of free values alone (R74). -/
theorem State.settleBurst_rest (s : State) (elapsed : Nat) :
    s.settleBurst elapsed = { s with
      builder := (s.settleBurst elapsed).builder, store := (s.settleBurst elapsed).store,
      matrix := (s.settleBurst elapsed).matrix, freeCount := (s.settleBurst elapsed).freeCount } := by
  unfold State.settleBurst
  split
  · unfold State.expireBurst
    rw [(State.deliver_recorded _ _).rest]
  · rfl

/-- The builder after an overdue expiry: EMPTY if it was RUNNING past its time, and otherwise as it stood (R74). -/
theorem State.settleBurst_builder (s : State) (elapsed : Nat) :
    (s.settleBurst elapsed).builder =
      if s.running = true ∧ s.builder.overdueAt elapsed = true then { members := [], timer := none } else s.builder := by
  unfold State.settleBurst
  by_cases h : s.running = true ∧ s.builder.overdueAt elapsed = true
  · rw [if_pos h, if_pos (by simp [h.1, h.2])]
    unfold State.expireBurst
    rw [State.deliver_builder]; rfl
  · rw [if_neg h, if_neg (by simpa using h)]

/-- Where no expiry is overdue nothing happens. -/
theorem State.settleBurst_same {s : State} {elapsed : Nat} (h : s.running = false ∨ s.builder.overdueAt elapsed = false) :
    s.settleBurst elapsed = s := by
  unfold State.settleBurst
  rcases h with h | h <;> simp [h]

@[simp] theorem State.settleBurst_link (s : State) (elapsed : Nat) : (s.settleBurst elapsed).link = s.link := by
  rw [s.settleBurst_rest elapsed]

@[simp] theorem State.settleBurst_tracker (s : State) (elapsed : Nat) : (s.settleBurst elapsed).tracker = s.tracker := by
  rw [s.settleBurst_rest elapsed]

@[simp] theorem State.settleBurst_engine (s : State) (elapsed : Nat) : (s.settleBurst elapsed).engine = s.engine := by
  rw [s.settleBurst_rest elapsed]

@[simp] theorem State.settleBurst_reduction (s : State) (elapsed : Nat) : (s.settleBurst elapsed).reduction = s.reduction := by
  rw [s.settleBurst_rest elapsed]

@[simp] theorem State.settleBurst_swell (s : State) (elapsed : Nat) : (s.settleBurst elapsed).swell = s.swell := by
  rw [s.settleBurst_rest elapsed]

@[simp] theorem State.settleBurst_gap (s : State) (elapsed : Nat) : (s.settleBurst elapsed).gap = s.gap := by
  rw [s.settleBurst_rest elapsed]

@[simp] theorem State.settleBurst_estimator (s : State) (elapsed : Nat) : (s.settleBurst elapsed).estimator = s.estimator := by
  rw [s.settleBurst_rest elapsed]

@[simp] theorem State.settleBurst_aggregator (s : State) (elapsed : Nat) : (s.settleBurst elapsed).aggregator = s.aggregator := by
  rw [s.settleBurst_rest elapsed]

@[simp] theorem State.settleBurst_bank (s : State) (elapsed : Nat) : (s.settleBurst elapsed).bank = s.bank := by
  rw [s.settleBurst_rest elapsed]

@[simp] theorem State.settleBurst_monitor (s : State) (elapsed : Nat) : (s.settleBurst elapsed).monitor = s.monitor := by
  rw [s.settleBurst_rest elapsed]

@[simp] theorem State.settleBurst_operator (s : State) (elapsed : Nat) : (s.settleBurst elapsed).operator = s.operator := by
  rw [s.settleBurst_rest elapsed]

@[simp] theorem State.settleBurst_consumer (s : State) (elapsed : Nat) : (s.settleBurst elapsed).consumer = s.consumer := by
  rw [s.settleBurst_rest elapsed]

@[simp] theorem State.settleBurst_pending (s : State) (elapsed : Nat) : (s.settleBurst elapsed).pending = s.pending := by
  rw [s.settleBurst_rest elapsed]

theorem State.settleBurst_measured (s : State) (elapsed : Nat) : Measured s (s.settleBurst elapsed) := by
  unfold State.settleBurst
  split
  · exact (State.deliver_recorded _ _).measured.after ⟨rfl, rfl, rfl, rfl, rfl, StoreTakes.refl _, id⟩
  · exact Measured.refl s

theorem State.placeBoundary_measured (s : State) (n : Nat) : Measured s (s.placeBoundary n) := by
  unfold State.placeBoundary
  exact (State.takeWindow_measured _ _).after ((State.settleBurst_measured _ _).after
    ⟨rfl, rfl, rfl, rfl, rfl, StoreTakes.refl _, id⟩)

/-- R90: what a window does to the aggregator: it takes the account of the window, with the contexts as they stood before it and
as they stand after it. -/
theorem State.takeWindow_aggregator (s : State) (v : ValueSet) :
    (s.takeWindow v).aggregator = s.aggregator.account v (s.eventOpen || (s.takeWindow v).eventOpen)
      (s.gapOpen || (s.takeWindow v).gapOpen) := by
  by_cases hv : v.valid = true
  · have e : s.takeWindow v = s.validWindow v := by rw [State.takeWindow, if_pos hv]
    rw [e]; unfold State.validWindow
    simp [State.eventOpen, State.gapOpen, GapContext.closed]
  · have e : s.takeWindow v = s.invalidWindow v := by rw [State.takeWindow, if_neg hv]
    rw [e]; unfold State.invalidWindow
    dsimp only
    split <;> simp [State.eventOpen, State.gapOpen]

@[simp] theorem State.takeWindow_tracker (s : State) (v : ValueSet) : (s.takeWindow v).tracker = s.tracker := by
  unfold State.takeWindow; split
  · unfold State.validWindow; simp
  · unfold State.invalidWindow; dsimp only; split <;> rfl

@[simp] theorem State.takeWindow_engine (s : State) (v : ValueSet) : (s.takeWindow v).engine = s.engine := by
  unfold State.takeWindow; split
  · unfold State.validWindow; simp
  · unfold State.invalidWindow; dsimp only; split <;> rfl

/-- R11, R13: the tracker reviews its reference by the value set that a boundary issues. -/
theorem State.placeBoundary_tracker (s : State) (n : Nat) :
    (s.placeBoundary n).tracker = ({ s.tracker with sinceBoundary := 0, firstBoundary := false }).review s.considered
      (State.valueSet { s with tracker := { s.tracker with sinceBoundary := 0, firstBoundary := false } } n) := by
  unfold State.placeBoundary; dsimp only; rw [State.takeWindow_tracker]; simp [State.considered, State.arrangement]

/-- R19: a boundary issues its value set. -/
theorem State.placeBoundary_latest (s : State) (n : Nat) :
    (s.placeBoundary n).engine.latest =
      some (State.valueSet { s with tracker := { s.tracker with sinceBoundary := 0, firstBoundary := false } } n) := by
  unfold State.placeBoundary; dsimp only; rw [State.takeWindow_engine]; simp

theorem State.loseReference_measured (s : State) : Measured s s.loseReference := by
  unfold State.loseReference
  exact (State.placeBoundary_measured _ _).after ⟨rfl, rfl, rfl, rfl, rfl, StoreTakes.refl _, id⟩

theorem State.settleBoundary_measured (s : State) : Measured s s.settleBoundary := by
  unfold State.settleBoundary
  split
  · exact s.loseReference_measured
  · split
    · exact s.placeBoundary_measured _
    · exact Measured.refl s

theorem State.countedCrossing_measured (s : State) (d : Direction) : Measured s (s.countedCrossing d) := by
  unfold State.countedCrossing
  dsimp only
  split
  · exact (State.placeBoundary_measured _ _).after ⟨rfl, rfl, rfl, rfl, rfl, StoreTakes.refl _, id⟩
  · split
    · exact (State.placeBoundary_measured _ _).after ⟨rfl, rfl, rfl, rfl, rfl, StoreTakes.refl _, id⟩
    · exact ⟨rfl, rfl, rfl, rfl, rfl, StoreTakes.refl _, id⟩

theorem State.examine_measured (s : State) (x : Int) : Measured s (s.examine x) := by
  have h : Measured s { s with tracker := { s.tracker with lastDir := some (signOf x) } } :=
    ⟨rfl, rfl, rfl, rfl, rfl, StoreTakes.refl _, id⟩
  unfold State.examine
  dsimp only
  split
  · exact h
  · split
    · exact h.trans (State.countedCrossing_measured _ _)
    · exact h

theorem State.handOn_measured (s : State) (x : SampleSet) (b : Bool) : Measured s (s.handOn x b) := by
  unfold State.handOn
  refine s.settleBoundary_measured.trans (Measured.trans ?_ (State.examine_measured _ _))
  exact ⟨rfl, rfl, rfl, rfl, rfl, StoreTakes.refl _, id⟩

theorem State.substitute_measured (s : State) : Measured s s.substitute := by
  unfold State.substitute
  exact (State.handOn_measured _ _ _).after ⟨rfl, rfl, rfl, rfl, rfl, StoreTakes.refl _, id⟩

theorem State.substitutes_measured (n : Nat) (s : State) : Measured s (State.substitutes n s) := by
  induction n generalizing s with
  | zero => exact Measured.refl s
  | succ n ih => exact s.substitute_measured.trans (ih _)

theorem State.enterSilent_measured (s : State) : Measured s s.enterSilent := by
  unfold State.enterSilent
  exact (State.substitutes_measured _ _).after ⟨rfl, rfl, rfl, rfl, rfl, StoreTakes.refl _, id⟩

theorem State.settleSilence_measured (s : State) : Measured s s.settleSilence := by
  unfold State.settleSilence
  split
  · exact s.enterSilent_measured
  · exact Measured.refl s

theorem State.takeSet_measured (s : State) (number : Byte) (x : SampleSet) : Measured s (s.takeSet number x) := by
  unfold State.takeSet
  exact (State.handOn_measured _ _ _).after ⟨rfl, rfl, rfl, rfl, rfl, StoreTakes.refl _, id⟩

theorem State.goodSet_measured (s : State) (number : Byte) (x : SampleSet) : Measured s (s.goodSet number x) := by
  have h : Measured s { s with link := { s.link with state := .running, silence := 0 } } :=
    ⟨rfl, rfl, rfl, rfl, rfl, StoreTakes.refl _, id⟩
  unfold State.goodSet
  dsimp only
  split
  · exact h.trans (State.takeSet_measured _ _ _)
  · split
    · exact h
    · exact h.trans ((State.substitutes_measured _ _).trans (State.takeSet_measured _ _ _))

theorem State.failedSet_measured (s : State) : Measured s s.failedSet := by
  unfold State.failedSet
  split
  · exact (State.substitute_measured _).after ⟨rfl, rfl, rfl, rfl, rfl, StoreTakes.refl _, id⟩
  · exact Measured.refl s

theorem State.transfer_measured (s : State) (bytes : List Byte) : Measured s (s.transfer bytes) := by
  unfold State.transfer
  split
  · refine s.settleSilence_measured.trans ?_
    dsimp only
    split
    · exact State.goodSet_measured _ _ _
    · exact State.failedSet_measured _
  · exact Measured.refl s

theorem State.tick_measured (s : State) : Measured s s.tick := by
  unfold State.tick
  split
  · refine s.settleSilence_measured.trans ?_
    dsimp only
    split
    · exact ⟨rfl, rfl, rfl, rfl, rfl, StoreTakes.refl _, id⟩
    · exact State.substitute_measured _
  · exact Measured.refl s

/-! ### The pending operation (R102) -/

/-- The pending operation is the one that the store's state asks for. -/
def Store.asksDue (t : Store) : Prop := t.pendingOp = t.dueOp

theorem Store.settle_asksDue (t : Store) : t.settle.asksDue := rfl

theorem State.finish_asksDue (s : State) : s.finish.store.asksDue := rfl

theorem State.finalizes_asksDue (records : List Record) (s : State) (h : s.store.asksDue) :
    (records.foldl State.finalize s).store.asksDue := by
  induction records generalizing s with
  | nil => exact h
  | cons r rest ih => exact ih _ (Store.settle_asksDue _)

theorem State.deliver_asksDue (records : List Record) (s : State) (h : s.store.asksDue) : (s.deliver records).store.asksDue := by
  unfold State.deliver
  split
  · exact State.finalizes_asksDue _ _ h
  · exact State.finalizes_asksDue _ _ h

/-! ### The lines -/

theorem State.lineSound_iff (s : State) (p : Port) : s.lineSound p ↔ (s.port p).attention = s.attentionDue p := by
  unfold State.lineSound State.attentionDue State.running
  rw [Bool.eq_iff_iff (b := _ && _)]
  simp only [Bool.and_eq_true, Bool.or_eq_true, decide_eq_true_eq, beq_iff_eq, Bool.not_eq_true', or_assoc,
    Nat.add_comm (s.port p).mark]

/-- What follows a change leaves both lines as the table of R169 says. -/
theorem State.finish_lineSound (s : State) (p : Port) : s.finish.lineSound p := by
  rw [State.lineSound_iff]
  cases p <;> rfl

/-- With the lines as R169 has them, only the pending operation is brought up to date. -/
theorem State.finish_of_lineSound {s : State} (h : ∀ p, s.lineSound p) : s.finish = { s with store := s.store.settle } := by
  have ho := (s.lineSound_iff .operator).1 (h .operator)
  have hc := (s.lineSound_iff .consumer).1 (h .consumer)
  have eo : { s with store := s.store.settle }.attentionDue .operator = s.operator.attention := ho.symm
  have ec : { s with store := s.store.settle }.attentionDue .consumer = s.consumer.attention := hc.symm
  unfold State.finish State.judgeLines
  rw [eo, ec]

/-- The lines depend on the monitor's state, the slots, the store's state and newest committed, and the port itself. -/
theorem State.lineSound_congr {s t : State} {p : Port} (hm : t.monitor.state = s.monitor.state)
    (hs : t.store.state = s.store.state) (hn : t.store.newest = s.store.newest) (ho : t.bank.operatorSlot = s.bank.operatorSlot)
    (hc : t.bank.consumerSlot = s.bank.consumerSlot) (hp : t.port p = s.port p) : t.lineSound p ↔ s.lineSound p := by
  unfold State.lineSound Bank.matched
  cases p <;> simp only [Port.other, Bank.slot, hm, hs, hn, ho, hc, hp]

/-! ### Requests -/

/-- The state of a port on which a request acts that was taken with a frame (R155, R158). -/
def State.takenPort (s : State) (p : Port) (frame : List Byte) : PortState :=
  { PortState.taken (s.port p) with
    period := none, clockedOut := s.bytesOut p frame.length, requestBuffer := frame.take 64 }

theorem State.takesPeriod_of_takesRequests {s : State} {p : Port} (h : s.takesRequests p) : s.takesPeriod p = true := by
  obtain ⟨hr, hp⟩ := h
  unfold State.takesPeriod State.periodNow State.running
  cases hq : (s.port p).period with
  | none => simp only [hr, Option.getD_none, State.periodAtStart, State.running]; cases (s.port p).replyState <;> rfl
  | some d => simp only [hr, Option.getD_some]; rw [hq] at hp; cases d <;> simp_all

/-- A request that the part takes acts on the state with its port taken. -/
theorem State.request_eq {s : State} {p : Port} (h : s.takesRequests p) (frame : List Byte) (act : State → State) :
    s.request p frame act = act (s.setPort p (s.takenPort p frame)) := by
  have ht := State.takesPeriod_of_takesRequests h
  unfold State.request
  rw [if_pos ht]
  unfold State.endPeriod State.takenPort
  rw [ht]
  simp only [State.onPort_eq, State.setPort_port, State.setPort_setPort, if_true]
  congr 2
  unfold PortState.taken
  cases hr : (s.port p).replyState <;> simp [hr]

/-- A complete reply on a port just taken is an answer (R158). -/
theorem State.complete_answered (s : State) (p : Port) (frame : List Byte) (code tag : Byte) (status : Status) (own : Nat)
    (payload : List Byte) :
    Answered p frame code tag status own payload s
      ((s.setPort p (s.takenPort p frame)).complete p code tag status own payload) := by
  unfold Answered State.complete State.takenPort
  simp only [State.onPort_eq, State.setPort_port, State.setPort_setPort]
  congr 1
  unfold PortState.taken
  cases h : (s.port p).replyState <;>
    simp [show (ReplyState.none == ReplyState.ready) = false from rfl,
      show (ReplyState.none == ReplyState.preparing) = false from rfl,
      show (ReplyState.ready == ReplyState.preparing) = false from rfl,
      show (ReplyState.preparing == ReplyState.ready) = false from rfl]

/-- A request kept in process on a port just taken (R158). -/
theorem State.prepare_kept (s : State) (p : Port) (frame : List Byte) (r : InProcess) :
    KeptInProcess p frame r s ((s.setPort p (s.takenPort p frame)).prepare p r) := by
  unfold KeptInProcess State.prepare State.takenPort
  simp only [State.onPort_eq, State.setPort_port, State.setPort_setPort]
  congr 1
  unfold PortState.taken
  cases h : (s.port p).replyState <;>
    simp [show (ReplyState.none == ReplyState.ready) = false from rfl,
      show (ReplyState.none == ReplyState.preparing) = false from rfl,
      show (ReplyState.ready == ReplyState.preparing) = false from rfl,
      show (ReplyState.preparing == ReplyState.ready) = false from rfl]

end Sys2Proof.Machine
end

