-- ==== Sys2Proof/Laws/Frames.lean ====
section
/-! SUPPORT. What the larger operations of the store, the interval, the commit, the supply and the restart leave unchanged: one
lemma for each, in which the fields that are not named stand as they stood. -/

namespace Sys2Proof.Machine

open Sys2Proof

/-! ### The store -/

theorem State.queueGapRecord_rest (s : State) :
    s.queueGapRecord = { s with store := s.queueGapRecord.store, operator := s.queueGapRecord.operator,
                                consumer := s.queueGapRecord.consumer } := by
  unfold State.queueGapRecord State.holdupWrite
  split <;> rfl

theorem State.endDrain_rest (s : State) :
    s.endDrain = { s with store := s.endDrain.store, bank := { s.bank with areaWrites := s.endDrain.bank.areaWrites } } := by
  unfold State.endDrain
  split <;> rfl

theorem State.takeOutQueue_rest (s : State) : s.takeOutQueue = { s with store := s.takeOutQueue.store } := rfl

theorem State.judgeErase_rest (s : State) (block : Nat) :
    s.judgeErase block = { s with store := (s.judgeErase block).store,
                                  bank := { s.bank with areaWrites := (s.judgeErase block).bank.areaWrites } } := by
  unfold State.judgeErase
  split
  · rfl
  · split
    · rw [State.endDrain_rest]; rfl
    · rfl

theorem State.startPending_rest (s : State) :
    s.startPending = { s with store := s.startPending.store,
                              bank := { s.bank with areaWrites := s.startPending.bank.areaWrites } } := by
  unfold State.startPending
  split
  · rfl
  · rfl
  · rfl
  · exact State.judgeErase_rest _ _
  · rfl
  · split <;> rfl

theorem State.serveRead_rest (s : State) (p : Port) :
    s.serveRead p = { s with store := { s.store with lastServed := (s.serveRead p).store.lastServed },
                             operator := (s.serveRead p).operator, consumer := (s.serveRead p).consumer } := by
  unfold State.serveRead
  split
  · rfl
  · cases p <;> rfl

theorem State.holdupWrite_rest (s : State) :
    s.holdupWrite = { s with store := { s.store with inFlight := s.holdupWrite.store.inFlight } } := by
  unfold State.holdupWrite
  split
  · unfold Store.startWrite; split <;> rfl
  · rfl

theorem State.grant_rest (s : State) :
    s.grant = { s with store := s.grant.store, bank := { s.bank with areaWrites := s.grant.bank.areaWrites },
                       operator := s.grant.operator, consumer := s.grant.consumer } := by
  unfold State.grant
  split
  · split
    · rw [State.serveRead_rest]
    · rw [State.startPending_rest]; rfl
  · rw [State.holdupWrite_rest]; rfl
  · rfl
  · rfl

theorem State.afterCompletion_rest (s : State) :
    s.afterCompletion = { s with store := s.afterCompletion.store,
                                 bank := { s.bank with areaWrites := s.afterCompletion.bank.areaWrites },
                                 operator := s.afterCompletion.operator, consumer := s.afterCompletion.consumer } := by
  unfold State.afterCompletion
  rw [State.holdupWrite_rest]
  split
  · rw [State.endDrain_rest]; rfl
  · rfl

theorem State.endReset_rest (s : State) (bytes : List Byte) (chain : Chain) :
    s.endReset bytes chain = { s with
      store := s.store.epochOpened bytes chain, matrix := matrixClear,
      bank := { s.bank with area := { s.bank.area with note := none, resetMark := false } },
      operator := { s.operator with mark := 0 }, consumer := { s.consumer with mark := 0 } } := rfl

theorem State.completeAreaWrite_rest (s : State) (w : AreaWrite) (rest : List AreaWrite) :
    s.completeAreaWrite w rest = { s with
      store := (s.completeAreaWrite w rest).store,
      bank := { s.bank with area := s.bank.area.apply w, areaWrites := rest },
      operator := { s.operator with attention := (s.completeAreaWrite w rest).operator.attention },
      consumer := { s.consumer with attention := (s.completeAreaWrite w rest).consumer.attention } } := rfl

/-! ### The interval, a commit and time -/

theorem State.openInterval_rest (s : State) (c : Nat) (a b : Bool) :
    s.openInterval c a b = { s with aggregator := (s.openInterval c a b).aggregator,
                                    monitor := { s.monitor with smallStepUsed := false } } := rfl

theorem State.commitRecord_rest (s : State) (b : Nat) :
    s.commitRecord b = { s with store := (s.commitRecord b).store, bank := (s.commitRecord b).bank } := rfl

theorem State.beginReset_rest (s : State) :
    s.beginReset = { s with store := s.beginReset.store, bank := { s.bank with areaWrites := s.beginReset.bank.areaWrites } } := by
  unfold State.beginReset
  dsimp only
  split
  · rw [State.endDrain_rest]; rfl
  · rw [State.endDrain_rest]

theorem State.commitEpoch_rest (s : State) (e : Nat) :
    s.commitEpoch e = { s with store := (s.commitEpoch e).store, bank := (s.commitEpoch e).bank } := by
  unfold State.commitEpoch
  rw [State.beginReset_rest]; rfl

theorem State.commitNotices_rest (s : State) (step : Option Int) :
    s.commitNotices step = { s with aggregator := (s.commitNotices step).aggregator, estimator := s.estimator.committed,
                                    monitor := { s.monitor with offset := (s.commitNotices step).monitor.offset } } := by
  unfold State.commitNotices
  cases step <;> rfl

theorem State.boundaryNotice_rest (s : State) (b : Nat) :
    s.boundaryNotice b = { s with
      store := (s.boundaryNotice b).store, bank := (s.boundaryNotice b).bank,
      aggregator := (s.boundaryNotice b).aggregator, estimator := (s.boundaryNotice b).estimator,
      monitor := { s.monitor with offset := (s.boundaryNotice b).monitor.offset } } := by
  unfold State.boundaryNotice
  split
  · dsimp only
    split
    · rw [State.commitNotices_rest, State.commitEpoch_rest]
    · rw [State.commitNotices_rest, State.commitRecord_rest]
  · rfl

theorem State.intervalRecord_length (s : State) (a b : Nat) : (s.intervalRecord a b).length ≤ 1 := by
  unfold State.intervalRecord
  split <;> simp

theorem State.intervalRecord_cell (s : State) (a b : Nat) : ∀ r ∈ s.intervalRecord a b, r.cell = none := by
  unfold State.intervalRecord
  split
  · simp
  · simp [Record.cell]

/-- Records that are not counted leave the matrix alone, whatever order they are taken in. -/
theorem State.deliver_matrix (s : State) (records : List Record) (h : ∀ r ∈ records, r.cell = none) :
    (s.deliver records).matrix = s.matrix := by
  have key : ∀ (l : List Record) (s : State), (∀ r ∈ l, r.cell = none) → (l.foldl State.finalize s).matrix = s.matrix := by
    intro l
    induction l with
    | nil => intro s _; rfl
    | cons r rs ih =>
      intro s hl
      rw [List.foldl_cons, ih _ fun x hx => hl x (List.mem_cons_of_mem _ hx)]
      show countRecord s.matrix r = s.matrix
      unfold countRecord
      rw [hl r List.mem_cons_self]
  have mem : ∀ (pick : Nat → Nat) (n : Nat) (l : List Record) (x : Record), x ∈ pickOrder pick n l → x ∈ l := by
    intro pick n
    induction n with
    | zero => intro l x hx; exact hx
    | succ n ih =>
      intro l x hx
      cases l with
      | nil => exact hx
      | cons y ys =>
        unfold pickOrder at hx
        rcases List.mem_cons.1 hx with rfl | hx
        · rw [List.getD_eq_getElem?_getD]
          cases hg : (y :: ys)[pick n % (ys.length + 1)]? with
          | none => exact List.mem_cons_self
          | some z => exact List.mem_of_getElem? hg
        · exact List.mem_of_mem_eraseIdx (ih _ _ hx)
  unfold State.deliver
  split
  · exact key _ _ h
  · rw [key _ _ fun r hr => h r (mem _ _ _ _ hr)]; rfl

/-- `t` is `s` after a boundary or a change of time: the receiver, the engine, the tracker, the contexts, the builder and the
matrix stand, and the store took records or began an epoch reset. -/
theorem State.takeBoundary_rest (s : State) :
    s.takeBoundary = { s with
      store := s.takeBoundary.store, bank := s.takeBoundary.bank, aggregator := s.takeBoundary.aggregator,
      estimator := s.takeBoundary.estimator, freeCount := s.takeBoundary.freeCount,
      operator := { s.operator with attention := s.takeBoundary.operator.attention },
      consumer := { s.consumer with attention := s.takeBoundary.consumer.attention },
      monitor := { s.monitor with offset := s.takeBoundary.monitor.offset, smallStepUsed := false } } := by
  have hm := s.deliver_matrix _ (s.intervalRecord_cell s.aggregator.nextBoundary s.monitor.elapsed)
  have hd := (s.deliver_recorded (s.intervalRecord s.aggregator.nextBoundary s.monitor.elapsed)).rest
  rw [hm] at hd
  unfold State.takeBoundary
  dsimp only
  rw [State.boundaryNotice_rest]
  unfold State.setBoundary
  dsimp only
  rw [State.openInterval_rest, hd]
  rfl

theorem State.intervalStep_rest (s : State) (before : Nat) :
    (s.intervalStep before).1 = { s with
      aggregator := (s.intervalStep before).1.aggregator,
      monitor := { s.monitor with smallStepUsed := (s.intervalStep before).1.monitor.smallStepUsed } } := by
  unfold State.intervalStep
  dsimp only
  split
  · rfl
  · split <;> rfl

theorem State.intervalInitial_rest (s : State) (before : Nat) :
    (s.intervalInitial before).1 = { s with
      aggregator := (s.intervalInitial before).1.aggregator,
      monitor := { s.monitor with smallStepUsed := (s.intervalInitial before).1.monitor.smallStepUsed } } := by
  unfold State.intervalInitial
  dsimp only
  split <;> rfl

/-! ### The supply -/

theorem State.tear_rest (s : State) :
    s.tear = { s with store := { s.store with array := s.tear.store.array, inFlight := none },
                      freeCount := s.tear.freeCount } := by
  unfold State.tear
  split
  · rename_i h
    cases s; rename_i store _ _ _ _ _ _
    cases store; simp_all
  · rfl

theorem State.stopScan_rest (s : State) :
    s.stopScan = { s with store := { s.store with array := s.stopScan.store.array, inFlight := s.stopScan.store.inFlight },
                          freeCount := s.stopScan.freeCount } := by
  unfold State.stopScan
  split <;> rfl

theorem State.enterRetain_rest (s : State) (complete : Bool) :
    s.enterRetain complete = { s with
      monitor := { s.monitor with state := .retain, holdupComplete := complete },
      store := { s.store with scanned := false, pendingOp := (s.enterRetain complete).store.pendingOp },
      operator := { s.operator with attention := (s.enterRetain complete).operator.attention },
      consumer := { s.consumer with attention := (s.enterRetain complete).consumer.attention } } := rfl

theorem State.warn_rest (s : State) :
    s.warn = { s with
      reduction := s.warn.reduction, swell := none, gap := .closed, builder := s.warn.builder, matrix := s.warn.matrix,
      aggregator := s.aggregator.freezeSupply s.now, store := s.warn.store, monitor := s.monitor.warned s.now,
      operator := s.warn.operator, consumer := s.warn.consumer, freeCount := s.warn.freeCount } := by
  unfold State.warn
  dsimp only
  rw [State.holdupWrite_rest, (State.deliver_recorded _ _).rest]
  rw [s.settleBurst_rest s.now.elapsed]
  rfl

theorem State.beginRestart_rest (s : State) (kind : RestartKind) (strap : Bool) :
    s.beginRestart kind strap = { s with
      tracker := { s.tracker with nominal := nominalOf strap },
      reduction := (s.beginRestart kind strap).reduction, swell := (s.beginRestart kind strap).swell,
      gap := (s.beginRestart kind strap).gap, builder := (s.beginRestart kind strap).builder,
      aggregator := (s.beginRestart kind strap).aggregator, store := (s.beginRestart kind strap).store,
      monitor := (s.beginRestart kind strap).monitor,
      bank := { s.bank with areaWrites := s.bank.areaWrites ++ [{ strap := some strap }] },
      operator := (s.beginRestart kind strap).operator, consumer := (s.beginRestart kind strap).consumer } := by
  unfold State.beginRestart
  dsimp only
  split <;> rfl

/-! ### The restart -/

theorem State.handOver_rest (s : State) (r : Record) : s.handOver r = { s with store := (s.handOver r).store } := rfl

theorem State.beginEpoch_rest (s : State) :
    s.beginEpoch = { s with store := s.beginEpoch.store, freeCount := s.beginEpoch.freeCount,
                            bank := { s.bank with areaWrites := s.beginEpoch.bank.areaWrites } } := by
  unfold State.beginEpoch
  dsimp only
  split <;> rfl

theorem State.settleEpoch_rest (s : State) :
    s.settleEpoch = { s with store := s.settleEpoch.store, freeCount := s.settleEpoch.freeCount,
                             bank := { s.bank with areaWrites := s.settleEpoch.bank.areaWrites } } := by
  unfold State.settleEpoch
  split
  · rfl
  · split
    · rw [State.endDrain_rest]
    · split
      · rw [State.beginEpoch_rest]
      · split <;> rfl

theorem State.applyNewer_rest (s : State) (found : List (Nat × List Changed)) :
    s.applyNewer found = { s with bank := { s.bank with inForce := (s.applyNewer found).bank.inForce,
                                                         areaWrites := (s.applyNewer found).bank.areaWrites } } := by
  unfold State.applyNewer
  split <;> rfl

theorem State.restate_rest (s : State) (changes : List Changed) :
    s.restate changes = { s with store := (s.restate changes).store,
                                 bank := { s.bank with areaWrites := (s.restate changes).bank.areaWrites } } := rfl

theorem State.recoverSettings_rest (s : State) (records : List Stored) :
    s.recoverSettings records = { s with
      store := (s.recoverSettings records).store,
      bank := { s.bank with inForce := (s.recoverSettings records).bank.inForce,
                            areaWrites := (s.recoverSettings records).bank.areaWrites } } := by
  unfold State.recoverSettings
  dsimp only
  split
  · split
    · rw [State.applyNewer_rest]
    · rw [State.restate_rest, State.applyNewer_rest]
  · rfl

theorem State.finishScan_rest (s : State) (kind : RestartKind) (r : ScanResult) :
    s.finishScan kind r = { s with
      store := (s.finishScan kind r).store, freeCount := (s.finishScan kind r).freeCount,
      matrix := (s.finishScan kind r).matrix,
      bank := { s.bank with inForce := (s.finishScan kind r).bank.inForce,
                            areaWrites := (s.finishScan kind r).bank.areaWrites },
      operator := { s.operator with mark := (s.finishScan kind r).operator.mark },
      consumer := { s.consumer with mark := (s.finishScan kind r).consumer.mark } } := by
  unfold State.finishScan
  dsimp only
  rw [State.recoverSettings_rest]
  split <;> (try unfold State.recoverCold) <;> rw [State.settleEpoch_rest]

theorem State.clearForStart_rest (s : State) :
    s.clearForStart = { s with
      bank := s.bank.emptied, estimator := .restart, tracker := .restart s.tracker.nominal, link := .restart,
      engine := .restart, operator := s.operator.cleared, consumer := s.consumer.cleared } := rfl

theorem State.recordRestart_rest (s : State) (kind : RestartKind) (r : ScanResult) :
    s.recordRestart kind r = { s with store := (s.recordRestart kind r).store,
                                      monitor := { s.monitor with lastKind := kind } } := rfl

theorem State.startMeasuring_rest (s : State) (kind : RestartKind) :
    s.startMeasuring kind = { s with
      reduction := s.reduction.map fun x => x.resumed kind, swell := s.swell.map fun x => x.resumed kind,
      gap := s.gap.resumed kind, builder := s.overdueBurst.1, matrix := (s.startMeasuring kind).matrix,
      aggregator := (s.startMeasuring kind).aggregator, store := (s.startMeasuring kind).store,
      freeCount := (s.startMeasuring kind).freeCount,
      monitor := { s.monitor with
        state := .run, restart := none, outageNote := none, smallStepUsed := false,
        retentionValid := s.monitor.retentionValid || kind == RestartKind.cold },
      operator := { s.operator with attention := (s.startMeasuring kind).operator.attention },
      consumer := { s.consumer with attention := (s.startMeasuring kind).consumer.attention } } := by
  unfold State.startMeasuring
  dsimp only
  rw [(State.deliver_recorded _ _).rest]
  rfl

end Sys2Proof.Machine
end

