-- ==== Sys2Proof/Laws/PerInstr.lean ====
section
/-! SUPPORT. Statements made for every command, one lemma per constructor. The family `Framing` says of a command, as syntax,
that it is a request exactly when R174 gives it a frame, and what that frame is. -/

namespace Sys2Proof.Laws

open Sys2Proof.Machine

/-- A well-formed command that has a request frame is sent by the master of the frame's port, and its frame has a code whose
required parameters are those it carries, 59 bytes at most, so that it fits 64 bytes (R157, R174). -/
def Framing.Statement (i : Instr) : Prop :=
  i.wf = true → ∀ frame, frameOf i = some frame → ∃ p code tag params, frame = requestFrame p code tag params
    ∧ senderOf i = some p ∧ requiredParams code params = some params.length ∧ params.length ≤ 59

/-- A command with no frame meets the statement. -/
theorem Framing.noFrame {i : Instr} (h : frameOf i = none) : Framing.Statement i := by
  intro _ frame hf
  rw [h] at hf
  cases hf

/-- A command whose frame is laid out from its port, code, tag and parameters meets the statement. -/
theorem Framing.ofFrame {i : Instr} {p : Port} {code tag : Byte} {params : List Byte}
    (h : frameOf i = some (requestFrame p code tag params)) (hs : senderOf i = some p)
    (hr : requiredParams code params = some params.length) (hl : params.length ≤ 59) : Framing.Statement i := by
  intro _ frame hf
  rw [h] at hf
  cases hf
  exact ⟨p, code, tag, params, rfl, hs, hr, hl⟩

theorem Framing.goodTransfer (bytes : List Byte) : Framing.Statement (.goodTransfer bytes) :=
  Framing.noFrame rfl

theorem Framing.failedTransfer (bytes : List Byte) : Framing.Statement (.failedTransfer bytes) :=
  Framing.noFrame rfl

theorem Framing.linkTick : Framing.Statement .linkTick :=
  Framing.noFrame rfl

theorem Framing.silentEntry : Framing.Statement .silentEntry :=
  Framing.noFrame rfl

theorem Framing.referenceLoss : Framing.Statement .referenceLoss :=
  Framing.noFrame rfl

theorem Framing.freeRunBoundary : Framing.Statement .freeRunBoundary :=
  Framing.noFrame rfl

theorem Framing.burstExpiry : Framing.Statement .burstExpiry :=
  Framing.noFrame rfl

theorem Framing.intervalBoundary : Framing.Statement .intervalBoundary :=
  Framing.noFrame rfl

theorem Framing.proposalExpiry (port : Port) : Framing.Statement (.proposalExpiry port) :=
  Framing.noFrame rfl

theorem Framing.releaseCheck : Framing.Statement .releaseCheck :=
  Framing.noFrame rfl

theorem Framing.heldBackGapQueue : Framing.Statement .heldBackGapQueue :=
  Framing.noFrame rfl

theorem Framing.arbiterGrant : Framing.Statement .arbiterGrant :=
  Framing.noFrame rfl

theorem Framing.recordWriteComplete : Framing.Statement .recordWriteComplete :=
  Framing.noFrame rfl

theorem Framing.padFillComplete : Framing.Statement .padFillComplete :=
  Framing.noFrame rfl

theorem Framing.eraseComplete : Framing.Statement .eraseComplete :=
  Framing.noFrame rfl

theorem Framing.resetEraseComplete : Framing.Statement .resetEraseComplete :=
  Framing.noFrame rfl

theorem Framing.epochWriteComplete : Framing.Statement .epochWriteComplete :=
  Framing.noFrame rfl

theorem Framing.areaWriteComplete : Framing.Statement .areaWriteComplete :=
  Framing.noFrame rfl

theorem Framing.flushComplete (port : Port) : Framing.Statement (.flushComplete port) :=
  Framing.noFrame rfl

theorem Framing.elapsedTick : Framing.Statement .elapsedTick :=
  Framing.noFrame rfl

theorem Framing.supplyGoodFall : Framing.Statement .supplyGoodFall :=
  Framing.noFrame rfl

theorem Framing.storeHoldupDone : Framing.Statement .storeHoldupDone :=
  Framing.noFrame rfl

theorem Framing.supplyCollapse : Framing.Statement .supplyCollapse :=
  Framing.noFrame rfl

theorem Framing.supplyGoodRise : Framing.Statement .supplyGoodRise :=
  Framing.noFrame rfl

theorem Framing.steadinessWaitDone (strap60 : Bool) : Framing.Statement (.steadinessWaitDone strap60) :=
  Framing.noFrame rfl

theorem Framing.powerUp : Framing.Statement .powerUp :=
  Framing.noFrame rfl

theorem Framing.retentionLoss : Framing.Statement .retentionLoss :=
  Framing.noFrame rfl

theorem Framing.resetAssert : Framing.Statement .resetAssert :=
  Framing.noFrame rfl

theorem Framing.resetRelease (strap60 : Bool) : Framing.Statement (.resetRelease strap60) :=
  Framing.noFrame rfl

theorem Framing.readPeriod (port : Port) (clocked : Nat) : Framing.Statement (.readPeriod port clocked) :=
  Framing.noFrame rfl

theorem Framing.invalidRequestFrame (port : Port) (bytes : List Byte) : Framing.Statement (.invalidRequestFrame port bytes) :=
  Framing.noFrame rfl

theorem Framing.status (port : Port) (tag : Byte) : Framing.Statement (.status port tag) :=
  Framing.ofFrame rfl rfl (by simp [requiredParams]) (by simp)

theorem Framing.readRecords (port : Port) (tag : Byte) (first : BitVec 32) (count : Byte) : Framing.Statement (.readRecords port tag first count) :=
  Framing.ofFrame rfl rfl (by simp [requiredParams]) (by simp)

theorem Framing.collect (port : Port) (tag : Byte) (number : BitVec 32) : Framing.Statement (.collect port tag number) :=
  Framing.ofFrame rfl rfl (by simp [requiredParams]) (by simp)

theorem Framing.readLive (port : Port) (tag : Byte) : Framing.Statement (.readLive port tag) :=
  Framing.ofFrame rfl rfl (by simp [requiredParams]) (by simp)

theorem Framing.readMatrix (port : Port) (tag : Byte) : Framing.Statement (.readMatrix port tag) :=
  Framing.ofFrame rfl rfl (by simp [requiredParams]) (by simp)

theorem Framing.readSettings (port : Port) (tag : Byte) (first last : Byte) : Framing.Statement (.readSettings port tag first last) :=
  Framing.ofFrame rfl rfl (by simp [requiredParams]) (by simp)

theorem Framing.lodge (port : Port) (tag : Byte) (pairs : List RawPair) : Framing.Statement (.lodge port tag pairs) := by
  intro hwf frame hf
  have hn : pairs.length ≤ 11 := by simpa [Instr.wf] using hwf
  cases hf
  refine ⟨port, 7, tag, _, rfl, rfl, ?_, ?_⟩
  · have : pairs.length % 256 = pairs.length := Nat.mod_eq_of_lt (by omega)
    simp [requiredParams, byteAt, this]
    omega
  · simp
    omega

theorem Framing.withdraw (port : Port) (tag : Byte) : Framing.Statement (.withdraw port tag) :=
  Framing.ofFrame rfl rfl (by simp [requiredParams]) (by simp)

theorem Framing.timeSet (port : Port) (tag : Byte) (value : BitVec 64) : Framing.Statement (.timeSet port tag value) :=
  Framing.ofFrame rfl rfl (by simp [requiredParams]) (by simp)

theorem Framing.timeStep (port : Port) (tag : Byte) (value : BitVec 64) : Framing.Statement (.timeStep port tag value) :=
  Framing.ofFrame rfl rfl (by simp [requiredParams]) (by simp)

theorem Framing.timeBadForm (port : Port) (tag : Byte) (form : Byte) (value : BitVec 64) : Framing.Statement (.timeBadForm port tag form value) :=
  Framing.ofFrame rfl rfl (by simp [requiredParams]) (by simp)

theorem Framing.setNotify (port : Port) (tag : Byte) (level : BitVec 16) : Framing.Statement (.setNotify port tag level) :=
  Framing.ofFrame rfl rfl (by simp [requiredParams]) (by simp)

theorem Framing.flush (port : Port) (tag : Byte) : Framing.Statement (.flush port tag) :=
  Framing.ofFrame rfl rfl (by simp [requiredParams]) (by simp)

theorem Framing.restartScanEnd : Framing.Statement .restartScanEnd :=
  Framing.noFrame rfl

theorem Framing.selectPeriodStart (port : Port) : Framing.Statement (.selectPeriodStart port) :=
  Framing.noFrame rfl

end Sys2Proof.Laws
end

