-- ==== Sys2Proof/Laws/Requests.lean ====
section
/-! SUPPORT. What the ports' operations and the requests leave unchanged: one lemma for each, in which the fields that are not
named stand as they stood. -/

namespace Sys2Proof.Machine

open Sys2Proof

/-- `t` is `s` but for its ports. -/
def OnlyPorts (s t : State) : Prop := t = { s with operator := t.operator, consumer := t.consumer }

theorem State.setPort_ports (s : State) (p : Port) (t : PortState) : OnlyPorts s (s.setPort p t) := by cases p <;> rfl

theorem OnlyPorts.trans {s t u : State} (h : OnlyPorts s t) (k : OnlyPorts t u) : OnlyPorts s u := by
  unfold OnlyPorts at *; rw [k, h]

theorem State.complete_ports (s : State) (p : Port) (c g : Byte) (x : Status) (o : Nat) (l : List Byte) :
    OnlyPorts s (s.complete p c g x o l) := State.setPort_ports _ _ _

theorem State.prepare_ports (s : State) (p : Port) (r : InProcess) : OnlyPorts s (s.prepare p r) :=
  State.setPort_ports _ _ _

theorem State.endPeriod_ports (s : State) (p : Port) (n : Nat) (b : List Byte) : OnlyPorts s (s.endPeriod p n b) :=
  State.setPort_ports _ _ _

theorem State.readEnds_ports (s : State) (p : Port) (n : Nat) : OnlyPorts s (s.readEnds p n) := by
  unfold State.readEnds
  dsimp only
  split
  · exact (State.endPeriod_ports _ _ _ _).trans (State.setPort_ports _ _ _)
  · exact State.endPeriod_ports _ _ _ _

theorem State.refuseFrame_ports (s : State) (p : Port) (c g : Byte) (x : Status) : OnlyPorts s (s.refuseFrame p c g x) :=
  (State.setPort_ports _ _ _).trans (State.complete_ports _ _ _ _ _ _ _)

/-- `t` is `s` after a request acted: the measuring blocks, the settings in force, the settings area and the array stand, and
so do newest committed and the commit queue's earlier entries. -/
def Asked (s t : State) : Prop :=
  t = { s with
    store := { s.store with
      queue := t.store.queue, episode := t.store.episode, state := t.store.state, releaseCheck := t.store.releaseCheck,
      pendingOp := t.store.pendingOp },
    bank := { s.bank with operatorSlot := t.bank.operatorSlot, consumerSlot := t.bank.consumerSlot },
    monitor := { s.monitor with
      offset := t.monitor.offset, quality := t.monitor.quality, smallStepUsed := t.monitor.smallStepUsed },
    aggregator := t.aggregator, operator := t.operator, consumer := t.consumer, freeCount := t.freeCount }

theorem Asked.trans {s t u : State} (h : Asked s t) (k : Asked t u) : Asked s u := by
  unfold Asked at *; rw [k, h]

theorem OnlyPorts.asked {s t : State} (h : OnlyPorts s t) : Asked s t := by
  unfold OnlyPorts at h; unfold Asked; rw [h]

theorem State.finish_asked (s : State) : Asked s s.finish := rfl

theorem State.judgeHeld_asked (s : State) : Asked s s.judgeHeld := by
  unfold State.judgeHeld; split <;> rfl

theorem State.setSlot_asked (s : State) (p : Port) (x : Option Proposal) : Asked s { s with bank := s.bank.setSlot p x } := by
  cases p <;> rfl

/-- Records that are not counted leave all but the store. -/
theorem State.deliver_asked (s : State) (records : List Record) (h : ∀ r ∈ records, r.cell = none) :
    Asked s (s.deliver records) := by
  have hr := (s.deliver_recorded records).rest
  rw [s.deliver_matrix records h] at hr
  have hs := (s.deliver_recorded records).store.rest
  unfold Asked
  rw [hr, hs]

theorem State.intervalStep_cells (s : State) (before : Nat) : ∀ r ∈ (s.intervalStep before).2, r.cell = none := by
  unfold State.intervalStep
  dsimp only
  split
  · simp
  · split
    · exact State.intervalRecord_cell _ _ _
    · simp

theorem State.intervalInitial_cells (s : State) (before : Nat) : ∀ r ∈ (s.intervalInitial before).2, r.cell = none := by
  unfold State.intervalInitial
  dsimp only
  split
  · exact State.intervalRecord_cell _ _ _
  · simp

theorem State.initialSet_asked (s : State) (p : Port) (t : Int) : Asked s (s.initialSet p t) := by
  unfold State.initialSet
  dsimp only
  refine Asked.trans (t := (State.intervalInitial { s with monitor := { s.monitor with
    offset := t - s.monitor.elapsed, quality := .set } } s.clock).1) ?_ (State.deliver_asked _ _ ?_)
  · rw [State.intervalInitial_rest]; rfl
  · intro r hr
    rcases List.mem_append.1 hr with h | h
    · exact State.intervalInitial_cells _ _ r h
    · rw [List.mem_singleton.1 h]; rfl

theorem State.smallStep_asked (s : State) (p : Port) (x : Int) : Asked s (s.smallStep p x) := by
  unfold State.smallStep
  dsimp only
  refine Asked.trans ?_ (State.deliver_asked _ _ ?_)
  · rw [State.intervalStep_rest]; rfl
  · intro r hr
    rcases List.mem_append.1 hr with h | h
    · exact State.intervalStep_cells _ _ r h
    · rw [List.mem_singleton.1 h]; rfl

theorem State.serveTimeSet_asked (s : State) (p : Port) (g : Byte) (v : BitVec 64) : Asked s (s.serveTimeSet p g v) := by
  unfold State.serveTimeSet
  dsimp only
  refine Asked.trans ?_ (State.complete_ports _ _ _ _ _ _ _).asked
  split
  · exact State.initialSet_asked _ _ _
  · rfl

theorem State.serveTimeStep_asked (s : State) (p : Port) (g : Byte) (v : BitVec 64) : Asked s (s.serveTimeStep p g v) := by
  unfold State.serveTimeStep
  dsimp only
  refine Asked.trans ?_ (State.complete_ports _ _ _ _ _ _ _).asked
  split
  · exact State.smallStep_asked _ _ _
  · rfl

/-- Whatever request is served, it reaches no more than `Asked` says. -/
theorem State.serve_asked (i : Instr) (s : State) : Asked s (s.serve i) := by
  cases i <;> simp only [State.serve] <;> try exact (rfl : Asked s s)
  · exact (State.complete_ports _ _ _ _ _ _ _).asked
  · exact (State.prepare_ports _ _ _).asked
  · unfold State.serveCollect
    dsimp only
    split
    · exact (State.complete_ports _ _ _ _ _ _ _).asked
    · refine Asked.trans (Asked.trans ?_ (State.judgeHeld_asked _)) (State.finish_asked _)
      exact ((State.setPort_ports _ _ _).trans (State.complete_ports _ _ _ _ _ _ _)).asked
  · exact (State.complete_ports _ _ _ _ _ _ _).asked
  · exact (State.complete_ports _ _ _ _ _ _ _).asked
  · unfold State.serveReadSettings
    split <;> exact (State.complete_ports _ _ _ _ _ _ _).asked
  · unfold State.serveLodge
    dsimp only
    split
    · exact ((State.setSlot_asked _ _ _).trans (State.complete_ports _ _ _ _ _ _ _).asked).trans (State.finish_asked _)
    · exact (State.complete_ports _ _ _ _ _ _ _).asked
  · exact ((State.setSlot_asked _ _ _).trans (State.complete_ports _ _ _ _ _ _ _).asked).trans (State.finish_asked _)
  · exact State.serveTimeSet_asked _ _ _ _
  · exact State.serveTimeStep_asked _ _ _ _
  · unfold State.serveTimeForm
    split
    · exact State.serveTimeSet_asked _ _ _ _
    · exact State.serveTimeStep_asked _ _ _ _
    · exact (State.complete_ports _ _ _ _ _ _ _).asked
  · exact ((State.setPort_ports _ _ _).trans (State.complete_ports _ _ _ _ _ _ _)).asked.trans (State.finish_asked _)
  · unfold State.serveFlush
    dsimp only
    split
    · exact (State.complete_ports _ _ _ _ _ _ _).asked
    · exact (State.prepare_ports _ _ _).asked

theorem State.serveFrame_asked (s : State) (p : Port) (b : List Byte) : Asked s (s.serveFrame p b) := by
  unfold State.serveFrame
  split
  · exact (State.refuseFrame_ports _ _ _ _ _).asked
  · split
    · exact State.serve_asked _ _
    · rfl

theorem State.request_asked (s : State) (p : Port) (frame : List Byte) (act : State → State) (h : ∀ t, Asked t (act t)) :
    Asked s (s.request p frame act) := by
  unfold State.request
  split
  · exact ((State.endPeriod_ports _ _ _ _).trans (State.setPort_ports _ _ _)).asked.trans (h _)
  · exact (State.endPeriod_ports _ _ _ _).asked

theorem State.periodEnds_asked (s : State) (p : Port) (b : List Byte) : Asked s (s.periodEnds p b) := by
  unfold State.periodEnds
  split
  · exact (State.endPeriod_ports _ _ _ _).asked
  · split
    · exact (State.readEnds_ports _ _ _).asked
    · exact State.request_asked _ _ _ _ fun t => t.serveFrame_asked p b

/-- A command that a port's master sends reaches no more than `Asked` says. -/
theorem exec_asked (i : Instr) (p : Port) (s t : State) (hp : senderOf i = some p) (h : exec i s = .next t) : Asked s t := by
  have fromServe : ∀ q frame j, s.request q frame (fun u => u.serve j) = t → Asked s t := fun q frame j e =>
    e ▸ State.request_asked _ _ _ _ fun u => u.serve_asked j
  cases i <;> simp only [senderOf, reduceCtorEq] at hp <;> injection h with h
  · exact h ▸ (State.readEnds_ports _ _ _).asked
  · exact h ▸ State.periodEnds_asked _ _ _
  case lodge q g pairs =>
    refine h ▸ State.request_asked _ _ _ _ fun u => ?_
    split
    · exact u.serve_asked (.lodge q g pairs)
    · exact (State.refuseFrame_ports _ _ _ _ _).asked
  case selectPeriodStart => exact h ▸ (State.setPort_ports _ _ _).asked
  case status q g => exact fromServe _ _ (.status q g) h
  case readRecords q g f c => exact fromServe _ _ (.readRecords q g f c) h
  case collect q g n => exact fromServe _ _ (.collect q g n) h
  case readLive q g => exact fromServe _ _ (.readLive q g) h
  case readMatrix q g => exact fromServe _ _ (.readMatrix q g) h
  case readSettings q g f l => exact fromServe _ _ (.readSettings q g f l) h
  case withdraw q g => exact fromServe _ _ (.withdraw q g) h
  case timeSet q g v => exact fromServe _ _ (.timeSet q g v) h
  case timeStep q g v => exact fromServe _ _ (.timeStep q g v) h
  case timeBadForm q g f v => exact fromServe _ _ (.timeBadForm q g f v) h
  case setNotify q g v => exact fromServe _ _ (.setNotify q g v) h
  case flush q g => exact fromServe _ _ (.flush q g) h

end Sys2Proof.Machine
end

