-- ==== Sys2Proof/Tests/Slice0.lean ====
section
/-! SUPPORT. The model's own tests: ill-formed commands refused, the worked examples of the manual, and for each statement a
state and operands that meet its hypotheses. -/

namespace Sys2Proof.Tests

open Sys2Proof.Machine

/-! ### Ill-formed commands -/

theorem test_wf_goodTransfer_wrong_check : (Instr.goodTransfer (List.replicate 15 0)).wf = false := by decide

theorem test_wf_failedTransfer_good_bytes : (Instr.failedTransfer (List.replicate 14 0 ++ [0xFF])).wf = false := by decide

theorem test_wf_readPeriod_one_byte : (Instr.readPeriod .operator 1).wf = false := by decide

theorem test_wf_invalidFrame_one_byte : (Instr.invalidRequestFrame .operator [5]).wf = false := by decide

theorem test_wf_invalidFrame_read_period : (Instr.invalidRequestFrame .operator [0, 0, 1]).wf = false := by decide

theorem test_wf_invalidFrame_passes : (Instr.invalidRequestFrame .operator (requestFrame .operator 1 7 [])).wf = false := by
  decide

theorem test_wf_lodge_twelve_pairs :
    (Instr.lodge .consumer 0 (List.replicate 12 { index := 8, value := 8000 })).wf = false := by decide

theorem test_wf_timeBadForm_step : (Instr.timeBadForm .operator 0 1 0).wf = false := by decide

/-! ### Worked examples of the manual -/

/-- The set of the worked check byte (01). -/
def set42 : List Byte := [0x2A, 0xE0, 0x2E, 0x90, 0xE8, 0x90, 0xE8, 0xF4, 0x01, 0, 0, 0, 0, 0]

/-- 01, worked check byte: 0xE2. -/
theorem test_check_byte : transferGood (set42 ++ [0xE2]) = true ∧ transferGood (set42 ++ [0xE3]) = false := by decide

/-- 01, worked check byte: the channel values. -/
theorem test_set42_values : (sampleSetOf (set42 ++ [0xE2])).voltage .b = -6000 ∧ (sampleSetOf (set42 ++ [0xE2])).current .a = 500 := by
  decide

/-- 02, the declared voltage and a dip window. -/
theorem test_voltage : scaled 30000 11585 (rootOf (192 * 134212225) 192) = 10000
    ∧ scaled 30000 11585 (rootOf 18816000000 192) = 8545 := by decide +kernel

/-- 02, limits: full scale under the default scale, and where the clamp acts. -/
theorem test_full_scale : scaled 30000 11585 (rootOf 274877906944 256) = 28285
    ∧ scaled 30000 10922 (rootOf 274877906944 256) = 30000 ∧ scaled 30000 10923 (rootOf 274877906944 256) = 29999
    ∧ scaled 60000 4096 (rootOf 274877906944 256) = 60000 := by decide +kernel

/-- 02, power importing, exporting, and on a tie. -/
theorem test_power : powerValue ((3840000000 : Int).tdiv 192) (11585 * 4096) = 4215
    ∧ powerValue ((-3840000095 : Int).tdiv 192) (11585 * 4096) = -4215
    ∧ powerValue 296576 (11585 * 4096) = 63 ∧ powerValue (-296576) (11585 * 4096) = -63 := by decide

/-- 04, a motor start and a feeder fault. -/
theorem test_metric : metricOf 40200 10 19500 = 2061 ∧ metricOf (-24800) 8 14600 = -2123 := by decide

/-- 01 and 06, the frequency of four cycles and of an interval. -/
theorem test_frequency : frequencyOf 4 771 = 49805
    ∧ intervalFrequency (nominalHertz 192) 600000 29940 5750900 = some 49979 := by decide

/-- 06, the aggregate voltage and the mean power of an interval. -/
theorem test_interval_means : isqrt (5991103191234 / 59965) = 9995 ∧ (731595123 : Int).tdiv 59965 = 12200
    ∧ (-731595123 : Int).tdiv 59965 = -12200 := by decide +kernel

/-- R88: the boundary after 15:30:00.000 exactly, for an interval of 10 minutes, is 15:40. -/
theorem test_boundary : boundaryAfter 10 55800000 = 56400000 := by decide

/-- R104: the CRC of the nine digits, the check value of this polynomial. -/
theorem test_crc : crc32 [0x31, 0x32, 0x33, 0x34, 0x35, 0x36, 0x37, 0x38, 0x39] = 0xCBF43926 := by decide +kernel

/-- 11, STATUS on the operator port with tag 0: length 5, code 1, check byte with 0x4F. -/
theorem test_status_frame : requestFrame .operator 1 0 [] = [5, 0, 1, 0, 0x4B] := by decide

/-- 11, the members of the worked burst: its worst member is the second, and it falls in row R-e, column 4. -/
theorem test_burst_cell : reductionCell true 0 6900 = 23 ∧ reductionCell false 8500 99 = 0 ∧ swellCell 13000 2000 = 27 := by
  decide

/-- 11, the reply to READ RECORDS of three records of 1, 2 and 3 slots is 203 bytes long. -/
theorem test_reply_length : (replyFrame .operator 2 0 .ok 0 (List.replicate (1 + 33 + 65 + 97) 0)).length = 203 := by decide +kernel

/-! ### A running part -/

/-- A part in RUN at a clock time of 10 minutes, with a store that holds record 1 and both marks at it. -/
def running : State :=
  { State.reset with
    monitor := { Monitor.factory with
      state := .run, supplyGood := true, retentionValid := true, elapsed := 600000, quality := .set },
    store := { Store.factory with
      scanned := true, oldest := some 1, newest := 1, epoch := 1, wpSlot := 1,
      blocks := [{ block := 0, first := 1, last := 1 }] },
    operator := { PortState.factory with mark := 1 }, consumer := { PortState.factory with mark := 1 } }

/-- An interval opened at clock time 0. -/
def interval0 : Interval :=
  { start := { clock := 0, elapsed := 0, quality := .set }, minutes := 10, arrangement := .three, sums := .zero,
    flags := .clear }

/-- The running part with that interval OPEN and its boundary due now. -/
def atBoundary : State :=
  { running with aggregator :=
      { interval := some interval0, freeze := none, lastClosed := some 0, nextBoundary := 600000, skip := false } }

/-- A proposal of one change, lodged at 0. -/
def proposal (index : Nat) (value : Int) : Proposal :=
  { changes := [{ index := index, value := value }], lodged := 0, expiry := 7200000 }

/-- The part at a boundary with a matched pair of one change. -/
def matchedAt (index : Nat) (value : Int) : State :=
  { atBoundary with bank := { Bank.factory with
      operatorSlot := some (proposal index value), consumerSlot := some (proposal index value) } }

/-- A TIMESTEP record. -/
def step1 : Record := .timestep { initial := false, port := .operator, before := 5, after := 6, elapsed := 5, quality := .set }

/-- The running part with one record in the queue. -/
def queued : State := { running with store := { running.store with queue := [{ number := 2, record := step1 }] } }

/-- Values of one phase. -/
def phase (u : Nat) : PhaseValues := { u := u, i := 0, p := 0, s := 0, considered := true }

/-- A TRACKING value set with three voltages. -/
def window (a b c : Nat) (valid : Bool) : ValueSet :=
  { elapsed := 600000, clock := 600000, n := 192, tracker := .tracking, ref := .a, substitutions := 0, valid := valid,
    clipped := false, arrangement := .three, phases := { a := phase a, b := phase b, c := phase c }, totalP := 9000,
    totalS := 10000 }

/-- A reduction summary with a residual. -/
def member (residual : Nat) : Summary :=
  { start := { clock := 0, elapsed := 0, quality := .set }, closeClock := 420, closeElapsed := 420, duration := 420,
    saturated := false, phases := { a := true, b := false, c := false }, residual := residual, residualPhase := .a,
    interruption := none, gapInside := false, clippedInside := false, spannedLoss := false, startedAtLoss := false,
    arrangement := .three, verdict := .undetermined, reason := .noReference, ref := none, count := 0, metric := none }

/-- A reset note from epoch 1 to epoch 2. -/
def note12 : ResetNote := { oldEpoch := 1, newEpoch := 2, oldLast := 1, oldChain := 0 }

/-- Both lines of a state stand as R169 says when its two attention bits are those of the table. -/
theorem lines_of {s : State} (h : s.operator.attention = s.attentionDue .operator ∧ s.consumer.attention = s.attentionDue .consumer) :
    s.lineSound .operator ∧ s.lineSound .consumer :=
  ⟨(s.lineSound_iff .operator).2 h.1, (s.lineSound_iff .consumer).2 h.2⟩

/-- One command on a small state: COLLECT at the mark leaves it, and below it is answered BACKWARD (R163). -/
theorem test_collect_backward :
    (match Machine.exec (.collect .operator 9 0) running with
      | .next t => (t.operator.mark, byteAt t.operator.reply 4)
      | _ => (0, 0)) = (1, 6) := by decide

/-- 11, sequence: a LODGE asserts the other port's line and not its own (R169). -/
theorem test_lodge_lines :
    (match Machine.exec (.lodge .operator 1 [{ index := 8, value := 8000 }]) running with
      | .next t => (t.operator.attention, t.consumer.attention)
      | _ => (true, false)) = (false, true) := by decide

/-- 11, sequence: the matching LODGE releases both lines (R169). -/
theorem test_match_lines :
    (match Machine.exec (.lodge .consumer 1 [{ index := 8, value := 8000 }])
        { running with bank := { Bank.factory with operatorSlot := some (proposal 8 8000) } } with
      | .next t => (t.operator.attention, t.consumer.attention, t.consumer.reply[6]?)
      | _ => (true, true, none)) = (false, false, some 0x0A) := by decide

/-- 11, sequence: the boundary commits the pair: INTERVAL and SETTINGS take the next two numbers (R147, R149). -/
theorem test_commit :
    (match Machine.exec .intervalBoundary (matchedAt 8 8000) with
      | .next t => (t.bank.inForce.burstWindow, t.store.queue.map Entry.number)
      | _ => (0, [])) = (8000, [2, 3]) := by decide

/-- R47: the warning opens a reduction in SUPPLY_LOST with residual 0 (03). -/
theorem test_warning :
    (match Machine.exec .supplyGoodFall running with
      | .next t => (t.monitor.state, t.reduction.map fun r => (r.state, r.residual))
      | _ => (.run, none)) = (.holdup, some (.supplyLost, 0)) := by decide

/-! ### Witnesses: the sample link, the tracker and the windows -/

/-- The running part with the link in another state. -/
def withLink (state : LinkState) (silence : Nat) (lastNumber : Byte) (rebase : Bool) : State :=
  { running with link := { Link.restart with state := state, silence := silence, lastNumber := lastNumber, rebase := rebase } }

/-- The running part with the tracker in another state. -/
def withTracker (state : TrackState) (since : Nat) (first : Bool) : State :=
  { running with tracker := { Tracker.restart 192 with state := state, sinceBoundary := since, firstBoundary := first } }

theorem witness_GoodTransferTaken : transferGood (set42 ++ [0xE2]) = true ∧ (withLink .running 2 41 false).monitor.state = .run
    ∧ (withLink .running 2 41 false).link.silence < 3 ∧ (byteAt (set42 ++ [0xE2]) 0 - 41).toNat = 1
    ∧ (byteAt (set42 ++ [0xE2]) 0 - 42).toNat = 0 ∧ (byteAt (set42 ++ [0xE2]) 0 - 43).toNat = 255
    ∧ (withLink .silent 3 41 false).link.state = .silent := by decide

theorem witness_SetHandedOnIsRecorded : running.tracker.lossDue = false ∧ running.tracker.freeRunDue = false
    ∧ running.tracker.lastDir = none ∧ (withTracker .search 191 true).tracker.freeRunDue = false
    ∧ signOf (zeroSet.voltage .a) = .positive := by decide

/-- The sets since the positive-going crossing held, after a set that shows a sign change. -/
def crossedAfter (held : Option Nat) : Option Nat :=
  ({ running with tracker := { running.tracker with lastDir := some .negative, sincePos := held } }.handOn zeroSet
    false).tracker.sincePos

/-- R9: a sign change is a counted crossing 128 sets after the last one of its direction, and not before. -/
theorem test_crossing_spacing : crossedAfter none = some 0 ∧ crossedAfter (some 127) = some 0
    ∧ crossedAfter (some 126) = some 127 := by decide +kernel

theorem witness_SubstitutionsStandForMissingSets : running.monitor.state = .run ∧ transferGood set42 = false
    ∧ running.link.state = .running ∧ (withLink .running 2 0 false).link.silence < 3
    ∧ (withLink .silent 3 0 false).link.state = .silent ∧ 3 ≤ (withLink .running 3 0 false).link.silence := by decide

theorem witness_BoundariesWithoutCrossings : (withTracker .tracking 256 false).tracker.state = .tracking
    ∧ 256 ≤ (withTracker .tracking 256 false).tracker.sinceBoundary ∧ (withTracker .search 192 true).tracker.state ≠ .tracking
    ∧ (withTracker .search 192 true).tracker.freeRunLength = 192 ∧ (withTracker .freeRun 96 false).tracker.freeRunLength = 96 := by
  decide

theorem witness_CountedCrossingEndsWindow : running.tracker.counts .positive = true
    ∧ { running.tracker with sincePos := some 128 }.counts .positive = true
    ∧ { running.tracker with sincePos := some 127 }.counts .positive = false
    ∧ { running.tracker with lastU := { a := 2000, b := 0, c := 0 } }.lastU.get running.tracker.ref = 2000
    ∧ atBoundary.aggregator.interval = some interval0 ∧ atBoundary.aggregator.freeze = none := by decide

/-- A tracker that holds a cycle in progress of 192 sets, in the state of an open interval: its crossing ends the cycle (R15, R91). -/
theorem test_cycle_handed_over :
    (({ atBoundary with tracker := { Tracker.restart 192 with
        state := .tracking, cycleMark := true, sincePos := some 192, sinceBoundary := 96 } }.countedCrossing .positive
      ).aggregator.interval.map fun i : Interval => (i.sums.cycles, i.sums.sets)) = some (1, 192) := by decide +kernel

theorem witness_RootIsFloorOfSquareRoot : 1 ≤ [(-32768 : Int)].length ∧ (List.replicate 256 (32767 : Int)).length ≤ 256
    ∧ ∀ x ∈ [(-32768 : Int), 32767], -32768 ≤ x ∧ x ≤ 32767 := by decide +kernel

theorem witness_PowerRoundsAwayFromZero : 0 < 20000 ∧ 2 * (1 * 10000 : Int) = (2 * 0 + 1) * 20000 ∧ powerValue 1 20000 = 1
    ∧ powerValue 59999 20000 = 30000 ∧ powerValue 59998 20000 = 29999 ∧ powerValue (-59999) 20000 = -30000 := by
  decide

/-- The running part whose newest sets were substituted, the newest of them clipped. -/
def marked (n : Nat) : State :=
  { running with link := { running.link with
      marks := { substituted := true, clipped := true } :: List.replicate n { substituted := true, clipped := false } } }

theorem witness_ValueSetFollowsItsFormulas : running.bank.inForce.arrangement ≠ 1
    ∧ ((marked 1).valueSet 192).valid = true ∧ ((marked 2).valueSet 192).valid = false
    ∧ ((marked 2).valueSet 2).valid = true ∧ ((marked 2).valueSet 1).clipped = true
    ∧ ((marked 2).valueSet 0).clipped = false := by decide +kernel

theorem witness_WindowOpensReductionOrFillsRing : (window 9500 8999 500 true).valid = true ∧ running.reduction = none
    ∧ running.considered.has .b = true ∧ (window 9500 8999 500 true).u .b < running.bank.inForce.td
    ∧ running.bank.inForce.ti ≤ (window 9500 8999 500 true).u .c
    ∧ ((running.takeWindow (window 499 499 499 true)).reduction.map Reduction.state) = some .interrupted
    ∧ ((running.takeWindow (window 499 499 500 true)).reduction.map Reduction.state) = some .dip
    ∧ ({ running with builder := { members := List.replicate 8 (member 8000), timer := none } }.takeWindow
        (window 9500 8999 500 true)).builder.members = [] := by decide

/-- The running part with a ring of equal entries and the skip mark. -/
def ringed (n : Nat) (skip : Bool) : State :=
  { running with estimator := { ring := List.replicate n { p := -7, s := 7 }, skip := skip } }

/-- The entries of the ring, its newest total p, and the skip mark, after a window. -/
def ringAfter (s : State) (v : ValueSet) : Nat × Option Int × Bool :=
  let e := (s.takeWindow v).estimator
  (e.ring.length, e.ring.head?.map RingEntry.p, e.skip)

/-- R61: a TRACKING window without a dip enters the ring as the newest of 20, unless the skip mark is set. -/
theorem test_ring_fills : ringAfter (ringed 19 false) (window 9500 9500 9000 true) = (20, some 9000, false)
    ∧ ringAfter (ringed 20 false) (window 9500 9500 9000 true) = (20, some 9000, false)
    ∧ ringAfter (ringed 19 true) (window 9500 9500 9000 true) = (19, some (-7), false)
    ∧ ringAfter (ringed 19 false) { window 9500 9500 9000 true with tracker := .search } = (19, some (-7), false)
    ∧ ringAfter (ringed 19 false) (window 9500 9500 8999 true) = (19, some (-7), false) := by decide +kernel

/-- R63: no references below 20 entries; at 20, P_pre truncated toward zero and S_pre floored. -/
theorem test_references : referencesOf (ringed 19 false).estimator.ring = none
    ∧ referencesOf ({ p := 0, s := 0 } :: (ringed 19 false).estimator.ring) = some { p := -6, s := 6 } := by decide

/-- The running part with an open reduction in a state. -/
def reducing (state : RedState) : State :=
  let part : InterruptionPart := { first := 10, last := none, entries := 1 }
  let r : Reduction :=
    { state := state, start := { clock := 0, elapsed := 0, quality := .set }, phases := { a := true, b := false, c := false },
      residual := 8000, residualPhase := .a, interruption := if state = .dip then none else some part, gapInside := false,
      clippedInside := false, spannedLoss := false, startedAtLoss := false,
      dir := { ref := none, sumD := 0, count := 0, frozen := false } }
  { running with reduction := some r }

/-- What a window makes of the reduction: its state, or none, and the members of the builder. -/
def reduced (s : State) (v : ValueSet) : Option RedState × Nat :=
  ((s.takeWindow v).reduction.map Reduction.state, (s.takeWindow v).builder.members.length)

theorem witness_ReductionMovesAndCloses : (window 9200 9200 9200 true).valid = true
    ∧ reduced (reducing .dip) (window 9200 9200 9200 true) = (none, 1)
    ∧ reduced (reducing .dip) (window 9200 9200 9199 true) = (some .dip, 0)
    ∧ reduced (reducing .dip) (window 499 499 499 true) = (some .interrupted, 0)
    ∧ reduced (reducing .interrupted) (window 699 699 699 true) = (some .interrupted, 0)
    ∧ reduced (reducing .interrupted) (window 0 0 700 true) = (some .dip, 0)
    ∧ reduced (reducing .interrupted) (window 9200 9200 9200 true) = (none, 1)
    ∧ reduced (reducing .supplyLost) (window 9200 9200 9200 true) = (some .supplyLost, 0)
    ∧ (let s := reducing .dip
       let t := { s with bank := { s.bank with inForce := { s.bank.inForce with burstWindow := 0 } } }
       (reduced t (window 9200 9200 9200 true), (t.takeWindow (window 9200 9200 9200 true)).store.queue.length))
      = ((none, 0), 1) := by decide +kernel

/-- A tracker after its review of a window: its state, its reference and its count of low windows. -/
def reviewed (t : Tracker) (v : ValueSet) : TrackState × Phase × Nat :=
  let u := t.review running.considered v
  (u.state, u.ref, u.lowCount)

theorem witness_WindowsReviewReferenceAndAreSummed :
    reviewed { Tracker.restart 192 with state := .tracking, lowCount := 1 } (window 2000 0 0 true) = (.tracking, .a, 0)
    ∧ reviewed { Tracker.restart 192 with state := .tracking } (window 1999 0 0 true) = (.tracking, .a, 1)
    ∧ reviewed { Tracker.restart 192 with state := .tracking, lowCount := 1 } (window 1999 1999 2000 true) = (.search, .c, 0)
    ∧ reviewed (Tracker.restart 192) (window 1999 1999 1999 true) = (.freeRun, .a, 0)
    ∧ atBoundary.aggregator.interval = some interval0 ∧ atBoundary.aggregator.freeze = none
    ∧ running.aggregator.interval = none
    ∧ ((atBoundary.takeWindow (window 9500 9600 9700 true)).aggregator.interval.map fun i : Interval =>
        (i.sums.n, i.sums.phases.b.minimum, i.sums.p)) = some (1, 9600, 9000)
    ∧ (let s := { atBoundary with aggregator := { atBoundary.aggregator with skip := true } }
       let t := s.takeWindow (window 9500 9600 9700 true)
       (t.aggregator.skip, t.aggregator.interval.map fun i : Interval => i.sums.n)) = (false, some 0) := by decide +kernel

/-- The running part with a gap context. -/
def gapped (opened : Option Nat) (runCount : Nat) : State :=
  { running with gap :=
      { opened := opened.map fun n => { start := running.now, windows := n }, runCount := runCount,
        runStart := if runCount = 0 then none else some running.now } }

/-- The gap context after a window: the windows of an open gap, the run count, and whether a run start is held. -/
def gapAfter (s : State) (valid : Bool) : Option Nat × Nat × Bool :=
  let g := (s.takeWindow (window 9500 9500 9500 valid)).gap
  (g.opened.map OpenGap.windows, g.runCount, g.runStart.isSome)

theorem witness_InvalidWindowsHoldTheContexts : (window 0 0 0 false).valid = false
    ∧ gapAfter (gapped none 0) false = (none, 1, true) ∧ gapAfter (gapped none 18) false = (none, 19, true)
    ∧ gapAfter (gapped none 19) false = (some 20, 20, true) ∧ gapAfter (gapped (some 20) 20) false = (some 21, 20, true)
    ∧ gapAfter (gapped (some max32) 20) false = (some max32, 20, true) := by decide

theorem witness_AccumulatorsHoldTheirBounds :
    ({ ref := some { p := 8000, s := 1 }, sumD := 140737488354327, count := 0, frozen := false } : DirectionFields).accumulate
      (window 0 0 0 true) false = { ref := some { p := 8000, s := 1 }, sumD := 140737488355327, count := 1, frozen := false }
    ∧ ({ ref := some { p := 7999, s := 1 }, sumD := 140737488354327, count := 0, frozen := false } : DirectionFields).accumulate
      (window 0 0 0 true) false = { ref := some { p := 7999, s := 1 }, sumD := 140737488354327, count := 0, frozen := true } := by
  decide

theorem witness_VerdictFollowsTheMetric :
    (judge 500 50 { ref := some { p := 0, s := 50 }, sumD := 25, count := 10, frozen := false }).reason = .metric
    ∧ (judge 500 50 { ref := some { p := 0, s := 49 }, sumD := 25, count := 10, frozen := false }).reason = .lowLoad
    ∧ (judge 500 50 { ref := some { p := 0, s := 50 }, sumD := 24, count := 10, frozen := false }).reason = .margin
    ∧ (judge 500 50 { ref := some { p := 0, s := 50 }, sumD := 0, count := 0, frozen := false }).reason = .interruptedOnly
    ∧ (judge 500 50 { ref := none, sumD := 0, count := 0, frozen := false }).reason = .noReference
    ∧ (judge 500 50 { ref := some { p := 0, s := 50 }, sumD := 1500, count := 10, frozen := false }).metric = some 30000
    ∧ (judge 500 50 { ref := some { p := 0, s := 10000 }, sumD := 29999, count := 1, frozen := false }).metric = some 29999 := by
  decide

theorem witness_SwellsAndGapsAtValidWindows : (window 11001 10000 10000 true).valid = true
    ∧ running.bank.inForce.h ≤ running.bank.inForce.ts ∧ running.bank.inForce.ts < (window 11001 10000 10000 true).u .a
    ∧ ((running.takeWindow (window 11001 10000 10000 true)).takeWindow (window 10801 10800 10800 true)).swell.isSome = true
    ∧ ((running.takeWindow (window 11001 10000 10000 true)).takeWindow (window 10800 10800 10800 true)).swell = none
    ∧ (∀ f, running.considered.has f = true → running.bank.inForce.td ≤ (window 9000 9000 9000 true).u f)
    ∧ gapAfter (gapped (some 20) 20) true = (none, 0, false) ∧ gapAfter (gapped none 19) true = (none, 0, false)
    ∧ ((gapped (some 20) 20).takeWindow (window 9000 9000 9000 true)).store.queue.length = 1
    ∧ ((gapped none 19).takeWindow (window 9000 9000 9000 true)).store.queue.length = 0 := by
  refine ⟨by decide, by decide, by decide, by decide, by decide, ?_, by decide, by decide, by decide, by decide⟩
  intro f; cases f <;> decide

/-! ### Witnesses: bursts, records and the store -/

/-- The running part with one member and a burst timer. -/
def withBurst (expiry : Nat) : State := { running with builder := { members := [member 8000], timer := some expiry } }

theorem witness_TimersAct_burst :
    (match Machine.exec .burstExpiry (withBurst 600000) with
      | .next t => (t.builder.members, t.store.queue.length)
      | _ => ([], 0)) = ([], 1)
    ∧ (withBurst 600001).builder.due running.monitor.elapsed = false
    ∧ ((withBurst 600000).settleBurst 600000).builder.members.length = 1
    ∧ ((withBurst 600000).settleBurst 600001).builder.members.length = 0 := by decide

theorem witness_FinalizedRecordsCountOnce : matrixClear.length = 31 ∧ (Record.reduction (member 8500)).cell = some 2
    ∧ (Record.burst [member 8499, member 7000]).cell = some 7 ∧ step1.cell = none
    ∧ (Record.burst [member 8500, member 6999, { member 6999 with closeElapsed := 2000 }]).cell = some 13
    ∧ countRecord matrixClear step1 = matrixClear := by decide

theorem witness_StoredRecordsCountTheSame : (Record.burst [member 8499, member 7000]).fits
    ∧ Stored.cell { number := 1, chain := 0, bytes := (Record.burst [member 8499, member 7000]).bytes 1 0 } = some 7 := by
  constructor
  · unfold Record.fits; decide
  · decide +kernel

theorem witness_RecordsReadBack : step1.fits ∧ 1 ≤ max32
    ∧ (storedAt (step1.bytes max32 7)).map Stored.number = some max32 := by
  refine ⟨trivial, by decide, by decide +kernel⟩

theorem witness_BoundaryClosesInterval : atBoundary.monitor.state = .run ∧ atBoundary.aggregator.interval = some interval0
    ∧ atBoundary.aggregator.freeze = none ∧ atBoundary.aggregator.nextBoundary ≤ atBoundary.clock
    ∧ atBoundary.bank.matched = false ∧ atBoundary.lineSound .operator ∧ atBoundary.lineSound .consumer :=
  ⟨rfl, rfl, rfl, by decide, rfl, lines_of (by decide)⟩

/-- What stands after a boundary: the slots as they were, a setting of a matched pair, and the settings record count. -/
def stands (s : State) : Bool × Nat × Nat :=
  match Machine.exec .intervalBoundary s with
  | .next t => (t.bank == s.bank, t.bank.inForce.burstWindow, t.store.queue.length)
  | _ => (false, 0, 0)

/-- R146: a matched pair stands at a boundary with a reduction open, the builder HOLDING, the store HELD or RESETTING. -/
theorem witness_BoundaryClosesInterval_waits :
    (let s := matchedAt 8 8000
     (stands { s with reduction := (reducing .dip).reduction }, stands { s with builder := (withBurst 700000).builder },
      stands { s with store := { s.store with state := .held } },
      stands { s with store := { s.store with state := .resetting, resetPhase := some .drain } }))
      = ((true, 5000, 1), (true, 5000, 1), (true, 5000, 0), (true, 5000, 0))
    ∧ (stands (matchedAt 8 8000)).1 = false
    ∧ changeFor (matchedAt 8 8000).bank.matchedChanges 14 = none := by decide

theorem witness_MatchedPairCommits : (matchedAt 13 (-1)).bank.matched = true
    ∧ changeFor (matchedAt 13 (-1)).bank.matchedChanges 14 = none ∧ (matchedAt 13 (-1)).reduction = none
    ∧ (matchedAt 13 (-1)).swell = none ∧ (matchedAt 13 (-1)).builder.members = [] ∧ (matchedAt 13 (-1)).store.state = .normal
    ∧ (matchedAt 13 (-1)).store.episode = none ∧ (matchedAt 13 (-1)).store.queue.length ≤ 4
    ∧ (matchedAt 13 (-1)).aggregator.nextBoundary ≤ (matchedAt 13 (-1)).clock
    ∧ (matchedAt 13 (-1)).store.newest + (matchedAt 13 (-1)).store.queue.length + 2 ≤ max32 := by decide

/-- The interval that a commit opens: its start, the last closed boundary, the next boundary, and time adjusted. -/
def committed (s : State) : Option Nat × Option Nat × Nat × Option Bool :=
  match Machine.exec .intervalBoundary s with
  | .next t =>
    (t.aggregator.interval.map fun i : Interval => i.start.clock, t.aggregator.lastClosed, t.aggregator.nextBoundary,
      t.aggregator.interval.map fun i : Interval => i.flags.timeAdjusted)
  | _ => (none, none, 0, none)

/-- R96, R126: a joint step of -1 s takes the interval back over its boundary, which then falls again. -/
theorem test_joint_step : committed (matchedAt 13 (-1)) = (some 599000, none, 600000, some true)
    ∧ committed (matchedAt 8 8000) = (some 600000, some 600000, 1200000, some false) := by decide

theorem witness_EpochPairBeginsReset : (matchedAt 14 2).bank.operatorSlot = some (proposal 14 2)
    ∧ (matchedAt 14 2).bank.consumerSlot = some (proposal 14 2) ∧ (proposal 14 2).changes = [{ index := 14, value := 2 }]
    ∧ (matchedAt 14 2).aggregator.interval = some interval0 ∧ (matchedAt 14 2).aggregator.freeze = none
    ∧ (matchedAt 14 2).aggregator.nextBoundary ≤ (matchedAt 14 2).clock ∧ (matchedAt 14 2).store.state ≠ .resetting
    ∧ (matchedAt 14 2).builder.members = [] := by decide

theorem witness_ArrayStaysCanonical : Memory.wf running.store.array = true ∧ ∃ t, Machine.exec .linkTick running = .next t :=
  ⟨rfl, _, rfl⟩

theorem witness_RecordsAreQueuedOrHeldBack : (running.handOver step1).store.queue.length = 1
    ∧ ({ running with store := { running.store with state := .held } }.handOver step1).store.episode.isSome = true
    ∧ ({ running with store := { running.store with newest := max32 } }.handOver step1).store.episode.isSome = true := by decide

/-- The running part with an open episode. -/
def withEpisode : State :=
  let counts : HeldCounts := { HeldCounts.zero with swell := 1 }
  let e : Episode := { counts := counts, start := { clock := 1, elapsed := 1, quality := .set }, lastClock := 2, lastElapsed := 2 }
  { running with store := { running.store with episode := some e } }

theorem witness_RecordsAreQueuedOrHeldBack_gap : withEpisode.monitor.state = .run ∧ withEpisode.store.scanned = true
    ∧ withEpisode.store.state = .normal ∧ withEpisode.store.episode.isSome = true ∧ withEpisode.store.queue.length < 6
    ∧ withEpisode.store.newest + withEpisode.store.queue.length < max32 ∧ withEpisode.lineSound .operator
    ∧ withEpisode.lineSound .consumer :=
  ⟨rfl, rfl, rfl, rfl, by decide, by decide, lines_of (by decide)⟩

/-- The running part with a read waiting on the operator's port. -/
def reading : State :=
  running.setPort .operator { running.operator with inProcess := some (.read 5 1 1), replyState := .preparing }

/-- The running part with a pending operation and a queue of one. -/
def withOp (op : PendingOp) : State := { queued with store := { queued.store with pendingOp := some op } }

theorem witness_ArbiterGivesTheArray : reading.operator.inProcess = some (.read 5 1 1) ∧ reading.consumer.waitingRead = none
    ∧ reading.store.inFlight = none ∧ (withOp .writeHead).store.wpSlot < 128 ∧ (withOp .padFill).operator.waitingRead = none
    ∧ (withOp (.eraseBlock 1)).releasable 1 = true ∧ (withOp .writeHead).lineSound .operator
    ∧ (withOp .writeHead).lineSound .consumer :=
  ⟨rfl, rfl, rfl, by decide, rfl, by decide, lines_of (by decide)⟩

/-- A block whose one record, the TIMESTEP record 2, neither mark has released. -/
def blocked : State :=
  { running with
    store := { running.store with
      array := Memory.writeBytes [] 4096 (step1.bytes 2 0), pendingOp := some (.eraseBlock 1),
      blocks := [{ block := 1, first := 2, last := 2 }] } }

theorem witness_ArbiterGivesTheArray_held : blocked.store.pendingOp = some (.eraseBlock 1) ∧ blocked.releasable 1 = false
    ∧ blocked.store.state = .normal ∧ blocked.operator.waitingRead = none ∧ blocked.consumer.waitingRead = none := by
  decide +kernel

/-- What the arbiter puts in flight, the write position, and the reset phase after it. -/
def granted (s : State) : Option InFlight × Nat × Nat × Option ResetPhase :=
  match Machine.exec .arbiterGrant s with
  | .next t => (t.store.inFlight, t.store.wpBlock, t.store.wpSlot, t.store.resetPhase)
  | _ => (none, 0, 0, none)

/-- A part with a pending operation of an epoch reset. -/
def resetting (op : PendingOp) (phase : ResetPhase) : State :=
  { withOp op with store := { (withOp op).store with state := .resetting, resetPhase := some phase } }

/-- The blocked part in the drain of an epoch reset, with one record in its queue. -/
def draining : State :=
  { blocked with store := { blocked.store with
      state := .resetting, resetPhase := some .drain, queue := [{ number := 3, record := step1 }] } }

theorem witness_ArbiterGivesTheArray_reset :
    (let s := withOp .writeHead
     let t := granted { s with store := { s.store with wpSlot := 128 } }
     (t.1.isSome, t.2.1, t.2.2.1)) = (true, 1, 0)
    ∧ (granted (resetting (.resetErase 5) (.erasing note12 5))).1 = some (.resetErase 5)
    ∧ (granted (resetting .epochWrite (.epochWrite { stamp := running.now, note := note12 }))).1.isSome = true
    ∧ (granted draining).1 = none ∧ (granted draining).2.2.2 = some .noteWrite
    ∧ draining.store.pendingOp = some (.eraseBlock 1) ∧ draining.releasable 1 = false := by decide +kernel

theorem witness_RoomIsMadeOnlyOnReleasedBlocks : (granted (withOp (.eraseBlock 1))).1 = some (.eraseBlock 1)
    ∧ touchesArray .arbiterGrant = false := by decide

/-- The operation that the store asks for with one record queued, of a write slot and the next block's use. -/
def asked (r : Record) (slot : Nat) (used : Bool) : Option PendingOp :=
  { queued.store with
    queue := [{ number := 2, record := r }], wpSlot := slot,
    blocks := if used then [{ block := 1, first := 1, last := 1 }] else [] }.dueOp

/-- R106, R109: a record of 1 slot and one of 2 at the last slot of a block and past it. -/
theorem test_due_operation : asked step1 127 true = some .writeHead
    ∧ asked (.reduction (member 8000)) 127 true = some .padFill ∧ asked step1 128 true = some (.eraseBlock 1)
    ∧ asked step1 128 false = some .writeHead ∧ { queued.store with queue := [] }.dueOp = none
    ∧ { queued.store with state := .held }.dueOp = none := by decide

/-- The running part with an operation in flight. -/
def inFlight (op : InFlight) (phase : Option ResetPhase) : State :=
  { queued with store := { queued.store with inFlight := some op, resetPhase := phase } }

/-- The part with the write of its queue head in flight, a second record queued, and a store changed. -/
def writing (state : MonitorState) (slot : Nat) (more : List Entry) (f : Store → Store) : State :=
  let s := (inFlight (.recordWrite (step1.bytes 2 0) 0) none).onMonitor fun m => { m with state := state }
  { s with store := f { s.store with wpSlot := slot, queue := s.store.queue ++ more } }

/-- After the write: whether an operation is in flight, the write slot, the block table and the waiting area writes. -/
def wrote (s : State) : Bool × Nat × List (Nat × Nat × Nat) × Option ResetPhase × Nat :=
  match Machine.exec .recordWriteComplete s with
  | .next t => (t.store.inFlight.isSome, t.store.wpSlot, t.store.blocks.map fun u => (u.block, u.first, u.last),
      t.store.resetPhase, t.bank.areaWrites.length)
  | _ => (false, 0, [], none, 0)

theorem witness_RecordWriteCommits :
    (writing .run 1 [] id).store.queue = { number := 2, record := step1 } :: []
    ∧ Memory.wf (writing .run 1 [] id).store.array = true
    ∧ wrote (writing .run 1 [] id) = (false, 2, [(0, 1, 2)], none, 0)
    ∧ wrote (writing .run 1 [] fun t => { t with wpBlock := 1 }) = (false, 2, [(0, 1, 1), (1, 2, 2)], none, 0)
    ∧ wrote (writing .holdup 126 [{ number := 3, record := step1 }] id) = (true, 127, [(0, 1, 2)], none, 0)
    ∧ wrote (writing .holdup 127 [{ number := 3, record := step1 }] id) = (false, 128, [(0, 1, 2)], none, 0)
    ∧ wrote (writing .run 1 [] fun t => { t with state := .resetting, resetPhase := some .drain })
      = (false, 2, [(0, 1, 2)], some .noteWrite, 1)
    ∧ wrote (writing .holdup 1 [] fun t => { t with state := .resetting, resetPhase := some .drain })
      = (false, 2, [(0, 1, 2)], some .drain, 0) := by
  refine ⟨?_, ?_, ?_, ?_, ?_, ?_, ?_, ?_⟩ <;> decide +kernel

theorem witness_FillsAndErasesComplete : (inFlight .padFill none).store.wpSlot ≤ 128
    ∧ (inFlight (.eraseBlock 0) none).store.inFlight = some (.eraseBlock 0)
    ∧ (inFlight (.resetErase 1023) (some (.erasing note12 1023))).store.resetPhase = some (.erasing note12 1023)
    ∧ (inFlight (.resetErase 1022) (some (.erasing note12 1022))).store.resetPhase ≠ some .drain
    ∧ (inFlight .padFill (some .drain)).store.queue ≠ []
    ∧ Memory.wf (inFlight .padFill none).store.array = true := by decide

theorem witness_EpochWriteEndsReset :
    (inFlight (.epochWrite [] 0) (some (.epochWrite { stamp := running.now, note := note12 }))).monitor.state = .run
    ∧ (inFlight (.epochWrite [] 0) (some (.epochWrite { stamp := running.now, note := note12 }))).store.resetPhase
      = some (.epochWrite { stamp := running.now, note := note12 }) := by decide

theorem witness_AreaWriteReplacesNamedFields :
    (match Machine.exec .areaWriteComplete { running with
        bank := { running.bank with areaWrites := [{ note := some (some note12) }, { strap := some true }] },
        store := { running.store with state := .resetting, resetPhase := some .noteWrite } } with
      | .next t => (t.store.resetPhase, t.bank.areaWrites.length, t.bank.area.strap)
      | _ => (none, 0, some true)) = (some (.erasing note12 0), 1, none) := by decide

/-- The running part with a FLUSH waiting for a target on the consumer's port. -/
def flushing (target : Nat) : State :=
  queued.setPort .consumer { queued.consumer with inProcess := some (.flush 3 target), replyState := .preparing }

theorem witness_FlushWaitEnds : (flushing 2).consumer.inProcess = some (.flush 3 2)
    ∧ ¬ (2 ≤ (flushing 2).store.newest) ∧ (flushing 2).store.flushEnds 2 = false ∧ (flushing 1).store.flushEnds 1 = true := by
  decide

theorem witness_TimersAct :
    (match Machine.exec (.proposalExpiry .operator) { matchedAt 8 8000 with
        monitor := { running.monitor with elapsed := 7200000 } } with
      | .next t => (t.bank.operatorSlot, t.consumer.attention)
      | _ => (none, true)) = (none, false)
    ∧ (matchedAt 8 8000).monitor.elapsed < 7200000
    ∧ { running with store := { running.store with state := .held, releaseCheck := some 600000 } }.releaseCheckDue = some 600000
    ∧ { running with store := { running.store with state := .held, releaseCheck := some 600001 } }.releaseCheckDue = none := by
  decide

/-! ### Witnesses: time, supply and restart -/

/-- The running part with its monitor changed. -/
def withMonitor (f : Monitor → Monitor) : State := running.onMonitor f

theorem witness_TicksAndLinesInEveryState : running.monitor.counterStopped = false ∧ running.monitor.elapsed < max48
    ∧ (withMonitor fun m => { m with elapsed := max48 - 1 }).monitor.elapsed < max48
    ∧ (withMonitor fun m => { m with state := .holdup, supplyGood := true }).monitor.supplyGood = true
    ∧ State.reset.monitor.supplyGood = false ∧ State.reset.monitor.state = .retain ∧ running.monitor.state ≠ .retain := by decide

theorem witness_ClockStaysInRange : running.clockSound ∧ (withMonitor fun m => { m with elapsed := max48 }).clockSound
    ∧ ∃ t, Machine.exec .elapsedTick running = .next t := by
  refine ⟨?_, ?_, _, rfl⟩ <;> (unfold State.clockSound; decide)

theorem witness_WarningIssued : running.monitor.supplyGood = true ∧ running.swell = none ∧ running.gap.opened = none
    ∧ running.builder.members.length < 8 ∧ queued.store.wpSlot + step1.slots ≤ 128
    ∧ { queued with store := { queued.store with wpSlot := 127 } }.store.wpSlot + step1.slots ≤ 128
    ∧ atBoundary.aggregator.freeze = none
    ∧ (withBurst 599999).builder.timer = some 599999 ∧ 599999 < (withBurst 599999).monitor.elapsed
    ∧ (running.takeWindow (window 11001 10000 10000 true)).swell.isSome = true
    ∧ { running with gap := { running.gap with opened := some { start := running.now, windows := 20 } } }.swell = none := by
  decide

/-- What the warning makes: the builder's members, the cell of R-b, column 3, and the records queued. -/
def warned (s : State) : Nat × Option Nat × Nat :=
  match Machine.exec .supplyGoodFall s with
  | .next t => (t.builder.members.length, t.matrix[7]?, t.store.queue.length)
  | _ => (0, none, 0)

/-- R74: an overdue burst expires before the warning opens its event, and one that falls due at it does not. -/
theorem test_warning_after_expiry : warned (withBurst 599999) = (0, some 1, 1) ∧ warned (withBurst 600000) = (1, some 0, 0) := by
  decide +kernel

theorem witness_HoldupEnds :
    (match Machine.exec .storeHoldupDone (withMonitor fun m => { m with state := .holdup }) with
      | .next t => (t.monitor.state, t.monitor.holdupComplete)
      | _ => (.run, false)) = (.retain, true)
    ∧ 128 < 128 + step1.slots ∧ (inFlight .padFill none).store.inFlight.isSome = true
    ∧ (step1.bytes 2 0).length % 32 = 0 ∧ running.monitor.state ≠ .holdup := by decide +kernel

/-- A part in RETAIN whose wait ends at an elapsed time. -/
def retaining (waitEnd : Nat) (valid : Bool) : State :=
  withMonitor fun m => { m with state := .retain, waitEnd := some waitEnd, retentionValid := valid }

theorem witness_RestartBegins :
    (match Machine.exec (.steadinessWaitDone true) (retaining 600000 true) with
      | .next t => (t.monitor.restart, t.tracker.nominal)
      | _ => (none, 0)) = (some .warm, 160)
    ∧ (retaining 600001 true).waitOver = false
    ∧ (match Machine.exec (.resetRelease false)
        (withMonitor fun m => { m with state := .restarting, resetHigh := false, retentionValid := false }) with
      | .next t => (t.monitor.restart, t.monitor.elapsed)
      | _ => (none, 1)) = (some .cold, 0)
    ∧ (match Machine.exec (.resetRelease false)
        ((retaining 600000 true).onMonitor fun m => { m with resetHigh := false }) with
      | .next t => t.monitor.restart
      | _ => none) = some .warm
    ∧ (match Machine.exec (.resetRelease false)
        ((retaining 600001 true).onMonitor fun m => { m with resetHigh := false }) with
      | .next t => (t.monitor.restart, t.monitor.resetHigh)
      | _ => (some .cold, false)) = (none, true) := by decide

/-- What RESET_ASSERT leaves: the monitor's state, the restart under way, and whether a scan stands. -/
def heldReset (s : State) : MonitorState × Option RestartKind × Bool :=
  match Machine.exec .resetAssert s with
  | .next t => (t.monitor.state, t.monitor.restart, t.store.scanned)
  | _ => (.run, none, true)

/-- A part in a restart of a kind, with an array. -/
def restarting (kind : RestartKind) (array : Memory) : State :=
  let s := withMonitor fun m => { m with state := .restarting, restart := some kind }
  { s with store := { s.store with array := array } }

/-- An array with the EPOCH record of epoch 1 alone. -/
def epochArray : Memory :=
  let r : Record := .epoch { stamp := { clock := 0, elapsed := 0, quality := .unset },
                             note := { oldEpoch := 0, newEpoch := 1, oldLast := 0, oldChain := 0 } }
  Memory.writeBytes [] 0 (r.bytes 1 (r.chainAfter 1 0))

theorem witness_ResetHolds : (restarting .line epochArray).monitor.resetHigh = true
    ∧ heldReset (restarting .line epochArray) = (.restarting, none, false)
    ∧ (Memory.scan (epochArray.write 4096 0)).damaged = [1] ∧ atBoundary.monitor.resetHigh = true ∧ atBoundary.aggregator.interval = some interval0
    ∧ atBoundary.aggregator.freeze = none ∧ atBoundary.store.inFlight = none
    ∧ (withMonitor fun m => { m with state := .holdup }).monitor.state = .holdup
    ∧ (withMonitor fun m => { m with resetHigh := false }).monitor.resetHigh = false := by decide +kernel

/-- The store with the EPOCH record, and a TIMESTEP record in its queue. -/
def storing : Store :=
  { running.store with array := epochArray, queue := [{ number := 2, record := step1 }] }

/-- A READ RECORDS reply: its flags and the first byte of each record, its mark. -/
def readMarks (t : Store) (first count : Nat) : Nat × List (Option Byte) :=
  let reply := t.readReply first count
  (reply.1, reply.2.map List.head?)

/-- R108, R162: a read from below oldest stored, from each kind of number, above newest assigned, and of an empty store. -/
theorem test_read_reply : readMarks storing 0 3 = (4, [some 0, some 1]) ∧ readMarks storing 1 1 = (0, [some 0])
    ∧ readMarks storing 2 1 = (0, [some 1]) ∧ readMarks storing 3 1 = (0, [])
    ∧ readMarks { storing with oldest := none } 1 1 = (12, []) ∧ readMarks { storing with oldest := none } 2 1 = (8, []) := by
  decide +kernel

/-- The part after the end of the scan of a restart. -/
def scanned (s : State) : State :=
  match Machine.exec .restartScanEnd s with
  | .next t => t
  | _ => s

theorem witness_RestartEnds :
    (let t := scanned (restarting .line epochArray)
     (t.monitor.state, t.monitor.lastKind, t.store.queue.map fun e => (e.number, e.record.slots)))
      = (.run, .line, [(2, 1)])
    ∧ running.monitor.state ≠ .restarting ∧ (restarting .line epochArray).store.episode = none
    ∧ (let s := restarting .warm epochArray
       ((scanned { s with builder := (withBurst 600000).builder }).builder.members.length,
        (scanned { s with builder := (withBurst 600001).builder }).builder.members.length)) = (0, 1)
    ∧ (let s := restarting .warm epochArray
       let z : Freeze := { clock := 599000, elapsed := 599000, cause := .supply }
       let t := scanned { s with aggregator := { atBoundary.aggregator with freeze := some z } }
       (t.store.queue.map fun e => (e.number, e.record.kindCode), t.aggregator.lastClosed,
        t.aggregator.nextBoundary, t.aggregator.freeze.isNone, t.aggregator.interval.map fun i : Interval => i.start.clock))
      = ([(2, 9), (3, 4)], some 600000, 1200000, true, some 600000) := by decide +kernel

/-- The EPOCH record, a slot of PAD, and the TIMESTEP record 2, whose chain value follows the EPOCH record's. -/
def paddedArray : Memory :=
  let chain := ((Memory.recordAt epochArray 0 0).map Stored.chain).getD 0
  (epochArray.writeBytes 32 (List.replicate 32 0)).writeBytes 64 (step1.bytes 2 (step1.chainAfter 2 chain))

theorem witness_ScanFindsTheStoredBlocks : Memory.wf [] = true ∧ (Memory.scan []).stored = []
    ∧ Memory.wf epochArray = true ∧ (Memory.scan epochArray).stored.map (fun c => (c.block, c.last.number, c.stop))
      = [(0, 1, .blank 1)]
    ∧ (Memory.scan (epochArray.write 4095 0)).damaged = [] ∧ (Memory.scan (epochArray.write 4096 0)).damaged = [1]
    ∧ (Memory.scan (epochArray.write 32 0)).tornFound = true
    ∧ (Memory.candidate epochArray 0).isSome = true ∧ (Memory.candidate epochArray 1).isNone = true
    ∧ ((Memory.candidate paddedArray 0).map fun c => (c.records.map Stored.number, c.stop)) = some ([1, 2], .blank 3)
    ∧ ((Memory.candidate (epochArray.write 32 9) 0).map fun c => (c.records.length, c.stop)) = some (1, .torn) := by decide +kernel

/-- What the scan's end leaves: the store's state and its phase, newest committed, the write slot and the epoch. -/
def found (s : State) : StoreState × Option ResetPhase × Nat × Nat × Nat :=
  let t := (scanned s).store
  (t.state, t.resetPhase, t.newest, t.wpSlot, t.epoch)

/-- A part in a restart with its settings area changed. -/
def withArea (s : State) (f : Area → Area) : State := { s with bank := { s.bank with area := f s.bank.area } }

theorem witness_ScanResultTakesEffect : found (restarting .cold epochArray) = (.normal, none, 1, 1, 1)
    ∧ found (withArea (restarting .warm epochArray) fun a => { a with note := some note12 })
      = (.resetting, some (.erasing note12 0), 1, 1, 1)
    ∧ found (withArea (restarting .line epochArray) fun a => { a with resetMark := true, epoch := 2 })
      = (.resetting, some .noteWrite, 1, 1, 1)
    ∧ (found (withArea (restarting .line []) fun a => { a with epoch := 65534 })).1 = .resetting
    ∧ (scanned (restarting .cold (epochArray.write 4096 0))).store.array = epochArray
    ∧ (let s := withArea (restarting .line epochArray) fun a => { a with
          epoch := 1, lastChange := some { changes := [{ index := 8, old := 5000, new := 8000 }], mark := .queued 2 } }
       (scanned s).store.queue.map fun e => (e.number, e.record.slots)) = [(2, 2), (3, 1)] := by decide +kernel

/-! ### Witnesses: the ports -/

theorem witness_takesRequests : running.takesRequests .operator ∧ running.takesRequests .consumer := by
  unfold State.takesRequests; decide

theorem witness_StatusAndLiveAnswered : running.takesRequests .operator ∧ running.engine.latest = none
    ∧ { running with engine := { running.engine with latest := some (window 9500 9600 9700 true) } }.takesRequests .consumer := by
  unfold State.takesRequests; decide

theorem witness_WithdrawAnswered : (matchedAt 8 8000).takesRequests .operator ∧ (matchedAt 8 8000).bank.matched = true := by
  unfold State.takesRequests; decide

/-- The running part with a complete reply of three bytes. -/
def readyPart : State :=
  running.setPort .operator { running.operator with replyState := .ready, reply := [1, 2, 3] }

theorem witness_SelectPeriodsReadReplies : readyPart.monitor.state = .run ∧ readyPart.operator.period = none
    ∧ readyPart.periodAtStart .operator = .reply [1, 2, 3] ∧ running.periodAtStart .operator = .zeros
    ∧ State.reset.monitor.state ≠ .run
    ∧ (match Machine.exec (.readPeriod .operator 3) readyPart with
      | .next t => t.operator.replyState
      | _ => .preparing) = .none
    ∧ (match Machine.exec (.readPeriod .operator 2) readyPart with
      | .next t => (t.operator.replyState, t.operator.clockedOut)
      | _ => (.none, [])) = (.ready, [1, 2]) := by decide

/-- The first status that the bytes of a bad frame on the operator's port get. -/
def badStatus (bytes : List Byte) : Option Status := frameFailure .operator bytes

theorem witness_BadFramesAnswered : running.takesRequests .operator
    ∧ badStatus [4, 0, 1, 0] = some .length ∧ badStatus [5, 0, 1, 0, 0x4A] = some .check
    ∧ badStatus (requestFrame .operator 12 0 []) = some .unknown ∧ badStatus (requestFrame .operator 0 0 []) = some .unknown
    ∧ badStatus (requestFrame .operator 1 0 [9]) = some .length
    ∧ (Instr.invalidRequestFrame .operator [5, 0, 1, 0, 0x4A]).wf = true := by
  unfold State.takesRequests; decide

theorem witness_RequestFramesRoundTrip : (Instr.lodge .consumer 7 [{ index := 13, value := 0xFFFFFFFF }]).wf = true
    ∧ (frameOf (.lodge .consumer 7 [{ index := 13, value := 0xFFFFFFFF }])).map List.length = some 11
    ∧ senderOf (.lodge .consumer 7 [{ index := 13, value := 0xFFFFFFFF }]) = some .consumer
    ∧ requestOf .consumer (requestFrame .consumer 7 7 [1, 13, 0xFF, 0xFF, 0xFF, 0xFF])
      = some (.lodge .consumer 7 [{ index := 13, value := 0xFFFFFFFF }]) := by decide

theorem witness_matrixSound : running.matrixSound := by unfold State.matrixSound; decide

theorem witness_MatrixAndSettingsAnswered : running.takesRequests .consumer ∧ running.matrixSound ∧ (1 : Byte).toNat ≤ (14 : Byte).toNat
    ∧ (14 : Byte).toNat ≤ 14 ∧ ¬ (1 ≤ (0 : Byte).toNat) ∧ ¬ ((15 : Byte).toNat ≤ 14) := by
  refine ⟨witness_takesRequests.2, witness_matrixSound, ?_⟩; decide

theorem witness_CollectAnswered : running.takesRequests .operator
    ∧ (0 : BitVec 32).toNat < running.operator.mark ∧ running.operator.mark ≤ (1 : BitVec 32).toNat
    ∧ running.store.newest < (2 : BitVec 32).toNat := by
  unfold State.takesRequests; decide

theorem witness_LodgeAnswered : running.takesRequests .operator
    ∧ lodgeStatus running.bank.inForce 0 [{ index := 3, value := 9500 }] = .ok
    ∧ lodgeStatus running.bank.inForce 0 [{ index := 3, value := 9501 }] = .range
    ∧ lodgeStatus running.bank.inForce 0 [{ index := 6, value := 500 }, { index := 3, value := 9500 }] = .conflict
    ∧ lodgeStatus running.bank.inForce 0 [{ index := 14, value := 1 }, { index := 8, value := 0 }] = .conflict
    ∧ lodgeStatus running.bank.inForce 0 [] = .range := by
  unfold State.takesRequests; decide

/-- R142: two slots match when they hold the same pairs, in any order. -/
theorem test_same_changes : sameChanges [{ index := 3, value := 1 }, { index := 4, value := 2 }]
      [{ index := 4, value := 2 }, { index := 3, value := 1 }] = true
    ∧ sameChanges [{ index := 3, value := 1 }] [{ index := 3, value := 1 }, { index := 4, value := 2 }] = false
    ∧ sameChanges [{ index := 3, value := 1 }] [{ index := 3, value := 2 }] = false := by decide

theorem witness_TimeAndNotifyAnswered : running.takesRequests .operator
    ∧ timeSetStatus .unset (max48 : Int) = .ok ∧ timeSetStatus .unset (-1) = .range
    ∧ timeSetStatus .set 0 = .conflict ∧ running.timeStepStatus 2000 = .ok ∧ running.timeStepStatus 2001 = .range
    ∧ (withMonitor fun m => { m with smallStepUsed := true }).timeStepStatus 1 = .limited
    ∧ (withMonitor fun m => { m with quality := .unset }).timeStepStatus 1 = .conflict
    ∧ (withMonitor fun m => { m with elapsed := 5 }).timeStepStatus (-6) = .range
    ∧ (withMonitor fun m => { m with elapsed := 5 }).timeStepStatus (-5) = .ok
    ∧ running.store.state = .normal ∧ running.store.episode = none ∧ running.store.queue.length ≤ 4 := by
  unfold State.takesRequests; decide

/-- The interval 1 s before its boundary, as a small step moves the clock: its start, the next boundary, and the records made. -/
def steppedBy (x : Int) : Option Nat × Nat × Nat :=
  let stepped := (atBoundary.onMonitor fun m => { m with elapsed := 599000, offset := x }).intervalStep 599000
  (stepped.1.aggregator.interval.map fun i : Interval => i.start.clock, stepped.1.aggregator.nextBoundary, stepped.2.length)

/-- R94: a step that reaches the boundary closes the interval and opens one at the time after it; a shorter one does not. -/
theorem test_step_over_boundary : steppedBy 1000 = (some 600000, 1200000, 1) ∧ steppedBy 999 = (some 0, 600000, 0) := by decide

theorem witness_WaitingRequestsKept : running.takesRequests .operator ∧ queued.takesRequests .operator
    ∧ running.store.queue = [] ∧ queued.store.queue ≠ [] ∧ queued.store.state ≠ .held := by
  unfold State.takesRequests; decide

theorem witness_AttentionLinesStaySound : running.lineSound .operator ∧ running.lineSound .consumer
    ∧ ∃ t, Machine.exec (.collect .operator 0 1) running = .next t :=
  ⟨(lines_of (by decide)).1, (lines_of (by decide)).2, _, rfl⟩

theorem witness_RepliesStayWhole : (∀ p, (running.port p).replySound p) ∧ ∃ t, Machine.exec (.flush .operator 0) queued = .next t := by
  refine ⟨fun p => ?_, _, rfl⟩
  cases p <;> exact ⟨fun h => absurd h (by decide), fun _ => rfl, by decide⟩

theorem witness_BuffersAndMatrixStayBounded : running.buffersSound ∧ running.matrixSound ∧ queued.store.queue.length ≤ 6
    ∧ ∃ t, Machine.exec .arbiterGrant queued = .next t := by
  refine ⟨by unfold State.buffersSound; decide, witness_matrixSound, by decide, _, rfl⟩

theorem witness_PortsStayApart : senderOf (.withdraw .consumer 0) = some .consumer
    ∧ (∃ t, Machine.exec (.withdraw .consumer 0) running = .next t) ∧ readyPart.operator.mark = running.operator.mark :=
  ⟨rfl, ⟨_, rfl⟩, rfl⟩

theorem witness_EachBlockKeepsToItsCommands : (Instr.elapsedTick).wf = true ∧ ofTheLink .elapsedTick = false
    ∧ startsRestart .elapsedTick = false ∧ movesTime .elapsedTick = false ∧ ofTheSupply .linkTick = false
    ∧ ∃ t, Machine.exec .elapsedTick running = .next t :=
  ⟨rfl, rfl, rfl, rfl, rfl, _, rfl⟩

end Sys2Proof.Tests
end

section
/-! What the operations that measure nothing and commit nothing leave unchanged: the relation `Quiet`, with one lemma for
each operation of the store, the arbiter, the settings area and the ports. -/

namespace Sys2Proof.Machine

open Sys2Proof

/-! ### The store -/

/-- `u` is the store `t` after an operation that commits no record: newest committed and its chain value stand (R103), and
the commit queue stays within its size (R105). -/
structure StoreKeeps (t u : Store) : Prop where
  newest : u.newest = t.newest
  chain : u.newestChain = t.newestChain
  bounded : t.queue.length ≤ queueCapacity → u.queue.length ≤ queueCapacity

theorem StoreKeeps.trans {t u v : Store} (h : StoreKeeps t u) (k : StoreKeeps u v) : StoreKeeps t v :=
  ⟨k.newest.trans h.newest, k.chain.trans h.chain, fun z => k.bounded (h.bounded z)⟩

/-- `StoreKeeps.trans` with its steps named from the last. -/
theorem StoreKeeps.after {t u v : Store} (k : StoreKeeps u v) (h : StoreKeeps t u) : StoreKeeps t v := h.trans k

/-- A store with the same queue, newest committed and chain value. -/
theorem StoreKeeps.sameQueue {t u : Store} (hn : u.newest = t.newest) (hc : u.newestChain = t.newestChain)
    (hq : u.queue = t.queue) : StoreKeeps t u := ⟨hn, hc, fun z => hq ▸ z⟩

theorem StoreKeeps.refl (t : Store) : StoreKeeps t t := .sameQueue rfl rfl rfl

theorem StoreTakes.keeps {t u : Store} (h : StoreTakes t u) : StoreKeeps t u :=
  ⟨by rw [h.rest], by rw [h.rest], h.bounded⟩

theorem Store.settle_keeps (t : Store) : StoreKeeps t t.settle := .sameQueue rfl rfl rfl

theorem Store.queueGap_keeps (t : Store) : StoreKeeps t t.queueGap := by
  unfold Store.queueGap
  split
  · exact .refl t
  · split
    · rename_i due
      have room : t.queue.length < queueCapacity := by simp_all [Store.gapDue, Store.hasRoom]
      exact ⟨rfl, rfl, fun _ => by simpa [Store.enqueue] using room⟩
    · exact .refl t

theorem Store.startWrite_keeps (t : Store) : StoreKeeps t t.startWrite := by
  unfold Store.startWrite
  split
  · exact .refl t
  · exact .sameQueue rfl rfl rfl

theorem Store.enterBlank_keeps (t : Store) : StoreKeeps t t.enterBlank := by
  unfold Store.enterBlank
  split
  · exact .sameQueue rfl rfl rfl
  · exact .refl t

theorem Store.noteWritten_keeps (t : Store) (note : Option ResetNote) : StoreKeeps t (t.noteWritten note) := by
  unfold Store.noteWritten
  split
  · exact .sameQueue rfl rfl rfl
  · exact .refl t

theorem Store.holdBacks_keep (now : Stamp) (entries : List Entry) (t : Store) :
    StoreKeeps t (entries.foldl (fun t e => t.holdBack now e.record) t) := by
  induction entries generalizing t with
  | nil => exact .refl t
  | cons e rest ih => exact (StoreKeeps.sameQueue rfl rfl rfl : StoreKeeps t (t.holdBack now e.record)).trans (ih _)

/-! ### The part -/

/-- `t` is `s` after an operation that measures nothing, commits nothing, and moves neither time nor a collection mark: only
the store, the slots and the area, the ports and the count of free values may differ. -/
structure Quiet (s t : State) : Prop where
  rest : t = { s with store := t.store, bank := { t.bank with inForce := s.bank.inForce }, operator := t.operator,
                      consumer := t.consumer, freeCount := t.freeCount }
  store : StoreKeeps s.store t.store
  marks : ∀ p, (t.port p).mark = (s.port p).mark

theorem Quiet.refl (s : State) : Quiet s s := ⟨rfl, .refl _, fun _ => rfl⟩

theorem Quiet.trans {s t u : State} (h : Quiet s t) (k : Quiet t u) : Quiet s u := by
  refine ⟨?_, h.store.trans k.store, fun p => (k.marks p).trans (h.marks p)⟩
  rw [k.rest, h.rest]

/-- `Quiet.trans` with its steps named from the last. -/
theorem Quiet.after {s t u : State} (k : Quiet t u) (h : Quiet s t) : Quiet s u := h.trans k

/-- A change to the store alone. -/
theorem Quiet.ofStore {s : State} {u : Store} (h : StoreKeeps s.store u) : Quiet s { s with store := u } :=
  ⟨rfl, h, fun p => by cases p <;> rfl⟩

/-- A change to the Bank that keeps the settings in force. -/
theorem Quiet.ofBank {s : State} {b : Bank} (h : b.inForce = s.bank.inForce) : Quiet s { s with bank := b } :=
  ⟨by rw [← h], .refl _, fun p => by cases p <;> rfl⟩

/-- A port replaced by one with its mark. -/
theorem State.setPort_quiet {s : State} {p : Port} {t : PortState} (h : t.mark = (s.port p).mark) :
    Quiet s (s.setPort p t) := by
  refine ⟨by cases p <;> rfl, by cases p <;> exact .refl _, fun q => ?_⟩
  cases p <;> cases q
  · exact h
  · rfl
  · rfl
  · exact h

theorem State.onPort_quiet {s : State} {p : Port} {g : PortState → PortState} (h : ∀ t, (g t).mark = t.mark) :
    Quiet s (s.onPort p g) := State.setPort_quiet (h _)

theorem State.onPorts_quiet {s : State} {g : PortState → PortState} (h : ∀ t, (g t).mark = t.mark) :
    Quiet s (s.onPorts g) := ⟨rfl, .refl _, fun p => by rw [State.onPorts_port, h]⟩

theorem State.useFree_quiet (s : State) : Quiet s s.useFree := ⟨rfl, .refl _, fun p => by cases p <;> rfl⟩

theorem State.finish_quiet (s : State) : Quiet s s.finish :=
  ⟨rfl, s.store.settle_keeps, fun p => by rw [State.finish_port]⟩

theorem State.handOver_quiet (s : State) (r : Record) : Quiet s (s.handOver r) := .ofStore (Store.take_takes _ _ _).keeps

theorem State.writeArea_quiet (s : State) (w : AreaWrite) : Quiet s (s.writeArea w) := .ofBank rfl

theorem State.dropAreaWrites_quiet (s : State) : Quiet s s.dropAreaWrites := .ofBank rfl

/-! ### The store and the arbiter -/

theorem State.judgeHeld_quiet (s : State) : Quiet s s.judgeHeld := by
  unfold State.judgeHeld
  split
  · exact .ofStore (.sameQueue rfl rfl rfl)
  · exact .refl s

theorem State.holdupWrite_quiet (s : State) : Quiet s s.holdupWrite := by
  unfold State.holdupWrite
  split
  · exact .ofStore s.store.startWrite_keeps
  · exact .refl s

theorem State.endDrain_quiet (s : State) : Quiet s s.endDrain := by
  unfold State.endDrain
  split
  · exact (State.writeArea_quiet _ _).after (.ofStore (.sameQueue rfl rfl rfl))
  · exact .refl s

theorem State.takeOutQueue_quiet (s : State) : Quiet s s.takeOutQueue := by
  have held := Store.holdBacks_keep s.now s.store.queue s.store
  exact .ofStore ⟨held.newest, held.chain, fun _ => Nat.zero_le _⟩

theorem State.judgeErase_quiet (s : State) (block : Nat) : Quiet s (s.judgeErase block) := by
  unfold State.judgeErase
  split
  · exact .ofStore (.sameQueue rfl rfl rfl)
  · split
    · exact s.takeOutQueue_quiet.trans (State.endDrain_quiet _)
    · exact .ofStore (.sameQueue rfl rfl rfl)

theorem State.startPending_quiet (s : State) : Quiet s s.startPending := by
  unfold State.startPending
  split
  · exact .refl s
  · exact .ofStore (s.store.enterBlank_keeps.trans (Store.startWrite_keeps _))
  · exact .ofStore (.sameQueue rfl rfl rfl)
  · exact s.judgeErase_quiet _
  · exact .ofStore (.sameQueue rfl rfl rfl)
  · split
    · exact .ofStore (.sameQueue rfl rfl rfl)
    all_goals exact .refl s

theorem State.complete_quiet (s : State) (p : Port) (code tag : Byte) (status : Status) (own : Nat) (payload : List Byte) :
    Quiet s (s.complete p code tag status own payload) := State.onPort_quiet fun _ => rfl

theorem State.serveRead_quiet (s : State) (p : Port) : Quiet s (s.serveRead p) := by
  unfold State.serveRead
  split
  · exact .refl s
  · exact (State.complete_quiet _ _ _ _ _ _ _).after (.ofStore (.sameQueue rfl rfl rfl))

theorem State.grant_quiet (s : State) : Quiet s s.grant := by
  unfold State.grant
  split
  · split
    · exact s.serveRead_quiet _
    · exact s.startPending_quiet.trans (State.finish_quiet _)
  · exact s.holdupWrite_quiet.trans (State.finish_quiet _)
  all_goals exact .refl s

theorem State.queueGapRecord_quiet (s : State) : Quiet s s.queueGapRecord :=
  ((Quiet.ofStore s.store.queueGap_keeps).trans (State.holdupWrite_quiet _)).trans (State.finish_quiet _)

theorem State.afterCompletion_quiet (s : State) : Quiet s s.afterCompletion := by
  unfold State.afterCompletion
  refine (State.finish_quiet _).after ((State.holdupWrite_quiet _).after ?_)
  split
  · exact s.endDrain_quiet
  · exact .refl s

theorem State.beginReset_quiet (s : State) : Quiet s s.beginReset := by
  unfold State.beginReset
  refine (State.endDrain_quiet _).after ?_
  split
  · exact (State.takeOutQueue_quiet _).after (.ofStore (.sameQueue rfl rfl rfl))
  · exact .ofStore (.sameQueue rfl rfl rfl)

theorem State.completeAreaWrite_quiet (s : State) (w : AreaWrite) (rest : List AreaWrite) :
    Quiet s (s.completeAreaWrite w rest) :=
  (State.finish_quiet _).after ⟨rfl, s.store.noteWritten_keeps _, fun p => by cases p <;> rfl⟩

theorem State.emptySlot_quiet (s : State) (p : Port) : Quiet s (s.emptySlot p) :=
  (Quiet.ofBank (Bank.setSlot_inForce _ _ _)).trans (State.finish_quiet _)

theorem State.checkRelease_quiet (s : State) (t : Nat) : Quiet s (s.checkRelease t) :=
  (State.finish_quiet _).after ((State.judgeHeld_quiet _).after (.ofStore (.sameQueue rfl rfl rfl)))

/-! ### What is cut short -/

theorem State.tear_quiet (s : State) : Quiet s s.tear := by
  unfold State.tear
  split
  · exact .refl s
  · exact s.useFree_quiet.trans (.ofStore (.sameQueue rfl rfl rfl))

theorem State.stopScan_quiet (s : State) : Quiet s s.stopScan := by
  unfold State.stopScan
  split
  · exact (s.useFree_quiet.trans (State.useFree_quiet _)).trans (.ofStore (.sameQueue rfl rfl rfl))
  · exact .refl s

theorem State.stopPorts_quiet (s : State) : Quiet s s.stopPorts := State.onPorts_quiet fun _ => rfl

/-! ### The ports -/

theorem PortState.taken_mark (t : PortState) : t.taken.mark = t.mark := by
  unfold PortState.taken
  split <;> rfl

theorem State.prepare_quiet (s : State) (p : Port) (r : InProcess) : Quiet s (s.prepare p r) :=
  State.onPort_quiet fun _ => rfl

theorem State.endPeriod_quiet (s : State) (p : Port) (n : Nat) (buffer : List Byte) : Quiet s (s.endPeriod p n buffer) := by
  unfold State.endPeriod
  exact State.onPort_quiet fun _ => rfl

theorem State.beginPeriod_quiet (s : State) (p : Port) : Quiet s (s.beginPeriod p) := by
  unfold State.beginPeriod
  exact State.onPort_quiet fun _ => rfl

theorem State.readEnds_quiet (s : State) (p : Port) (n : Nat) : Quiet s (s.readEnds p n) := by
  unfold State.readEnds
  dsimp only
  split
  · exact (State.endPeriod_quiet _ _ _ _).trans (State.onPort_quiet fun _ => rfl)
  · exact State.endPeriod_quiet _ _ _ _

theorem State.refuseFrame_quiet (s : State) (p : Port) (code tag : Byte) (status : Status) :
    Quiet s (s.refuseFrame p code tag status) :=
  (State.onPort_quiet fun t => by cases status <;> rfl).trans (State.complete_quiet _ _ _ _ _ _ _)

/-- A request that acts acts on a state that is quiet after its taking; one that the part does not take is quiet whole. -/
theorem State.request_cases (s : State) (p : Port) (frame : List Byte) (act : State → State) :
    ∃ t, Quiet s t ∧ (s.request p frame act = act t ∨ s.request p frame act = t) := by
  unfold State.request
  split
  · exact ⟨_, (State.endPeriod_quiet _ _ _ _).trans (State.onPort_quiet PortState.taken_mark), .inl rfl⟩
  · exact ⟨_, State.endPeriod_quiet _ _ _ _, .inr rfl⟩

theorem State.request_quiet (s : State) (p : Port) (frame : List Byte) {act : State → State} (h : ∀ t, Quiet t (act t)) :
    Quiet s (s.request p frame act) := by
  obtain ⟨t, ht, e | e⟩ := s.request_cases p frame act
  · exact e ▸ ht.trans (h t)
  · exact e ▸ ht

end Sys2Proof.Machine
end

section
/-! Which blocks each command may change: the table `blocksOf`, and that every well-formed command keeps to it. -/

namespace Sys2Proof.Machine

open Sys2Proof

/-! ### Requests -/

theorem State.serveReadSettings_quiet (s : State) (p : Port) (tag first last : Byte) :
    Quiet s (s.serveReadSettings p tag first last) := by
  unfold State.serveReadSettings
  split
  · exact s.complete_quiet _ _ _ _ _ _
  · exact s.complete_quiet _ _ _ _ _ _

theorem State.serveSetNotify_quiet (s : State) (p : Port) (tag : Byte) (value : BitVec 16) :
    Quiet s (s.serveSetNotify p tag value) := by
  unfold State.serveSetNotify
  exact (State.finish_quiet _).after ((State.complete_quiet _ _ _ _ _ _ _).after (State.onPort_quiet fun _ => rfl))

theorem State.serveLodge_quiet (s : State) (p : Port) (tag : Byte) (pairs : List RawPair) :
    Quiet s (s.serveLodge p tag pairs) := by
  unfold State.serveLodge
  dsimp only
  split
  · exact (State.finish_quiet _).after ((State.complete_quiet _ _ _ _ _ _ _).after (.ofBank (Bank.setSlot_inForce _ _ _)))
  · exact s.complete_quiet _ _ _ _ _ _

theorem State.serveWithdraw_quiet (s : State) (p : Port) (tag : Byte) : Quiet s (s.serveWithdraw p tag) :=
  (State.finish_quiet _).after ((State.complete_quiet _ _ _ _ _ _ _).after (.ofBank (Bank.setSlot_inForce _ _ _)))

theorem State.serveFlush_quiet (s : State) (p : Port) (tag : Byte) : Quiet s (s.serveFlush p tag) := by
  unfold State.serveFlush
  dsimp only
  split
  · exact s.complete_quiet _ _ _ _ _ _
  · exact s.prepare_quiet _ _

/-- A form that is neither SET nor STEP is answered and moves nothing (R167). -/
theorem State.serveTimeForm_quiet (s : State) (p : Port) (tag form : Byte) (value : BitVec 64) (h : 2 ≤ form.toNat) :
    Quiet s (s.serveTimeForm p tag form value) := by
  unfold State.serveTimeForm
  split
  · omega
  · omega
  · exact s.complete_quiet _ _ _ _ _ _

/-- R163: a COLLECT is quiet but for the mark it may set first. -/
theorem State.serveCollect_cases (s : State) (p : Port) (tag : Byte) (number : BitVec 32) :
    Quiet s (s.serveCollect p tag number) ∨ Quiet (s.setMark p number.toNat) (s.serveCollect p tag number) := by
  unfold State.serveCollect
  split
  · exact .inl (s.complete_quiet _ _ _ _ _ _)
  · exact .inr (((State.complete_quiet _ _ _ _ _ _ _).trans (State.judgeHeld_quiet _)).trans (State.finish_quiet _))

/-- An INVALID_REQUEST_FRAME that fails a check is answered with the failure, and moves nothing (R157). -/
theorem State.periodEnds_quiet (s : State) (p : Port) (bytes : List Byte) (h : (frameFailure p bytes).isSome = true) :
    Quiet s (s.periodEnds p bytes) := by
  obtain ⟨status, hf⟩ := Option.isSome_iff_exists.1 h
  unfold State.periodEnds
  split
  · exact s.endPeriod_quiet _ _ _
  · split
    · exact s.readEnds_quiet _ _
    · exact s.request_quiet _ _ fun t => by
        unfold State.serveFrame
        rw [hf]
        exact t.refuseFrame_quiet _ _ _ _

/-! ### The store across a boundary, a window and a warning -/

theorem State.deliver_keeps (s : State) (records : List Record) : StoreKeeps s.store (s.deliver records).store :=
  (s.deliver_recorded records).store.keeps

theorem State.commitRecord_keeps (s : State) (boundary : Nat) : StoreKeeps s.store (s.commitRecord boundary).store :=
  (Store.take_takes _ _ _).keeps

theorem State.commitEpoch_keeps (s : State) (epoch : Nat) : StoreKeeps s.store (s.commitEpoch epoch).store :=
  (s.writeEpoch epoch).beginReset_quiet.store

theorem State.boundaryNotice_keeps (s : State) (boundary : Nat) : StoreKeeps s.store (s.boundaryNotice boundary).store := by
  unfold State.boundaryNotice
  split
  · dsimp only
    split
    · rw [State.commitNotices_rest]; exact s.commitEpoch_keeps _
    · rw [State.commitNotices_rest]; exact s.commitRecord_keeps _
  · exact .refl _

theorem State.takeBoundary_keeps (s : State) : StoreKeeps s.store s.takeBoundary.store := by
  unfold State.takeBoundary
  exact (Store.settle_keeps _).after ((State.boundaryNotice_keeps _ _).after (s.deliver_keeps _))

theorem State.expireBurst_keeps (s : State) : StoreKeeps s.store s.expireBurst.store := by
  unfold State.expireBurst
  exact (State.deliver_keeps _ _).after (.refl _)

theorem State.settleBurst_keeps (s : State) (elapsed : Nat) : StoreKeeps s.store (s.settleBurst elapsed).store :=
  (s.settleBurst_measured elapsed).store.keeps

theorem State.warn_keeps (s : State) : StoreKeeps s.store s.warn.store := by
  unfold State.warn
  exact ((State.finish_quiet _).after (State.holdupWrite_quiet _)).store.after
    ((State.deliver_keeps _ _).after (s.settleBurst_keeps _))

theorem State.warn_mark (s : State) (p : Port) : (s.warn.port p).mark = (s.port p).mark := by
  unfold State.warn
  dsimp only
  rw [((State.holdupWrite_quiet _).trans (State.finish_quiet _)).marks, State.deliver_port, State.stopPorts_quiet _ |>.marks]
  cases p <;> simp [State.port]

/-! ### Blocks -/

/-- The parts of the state that the statement of the blocks speaks of. `numbers` is newest committed with its chain value,
`contexts` the three event contexts. -/
inductive Block where
  | link | tracker | engine | estimator | contexts | builder | matrix | aggregator | inForce | numbers | monitor
  | mark (p : Port)
  deriving DecidableEq

/-- A block is in `t` as it is in `s`. -/
def Block.Stands (s t : State) : Block → Prop
  | .link => t.link = s.link
  | .tracker => t.tracker = s.tracker
  | .engine => t.engine = s.engine
  | .estimator => t.estimator = s.estimator
  | .contexts => t.reduction = s.reduction ∧ t.swell = s.swell ∧ t.gap = s.gap
  | .builder => t.builder = s.builder
  | .matrix => t.matrix = s.matrix
  | .aggregator => t.aggregator = s.aggregator
  | .inForce => t.bank.inForce = s.bank.inForce
  | .numbers => t.store.newest = s.store.newest ∧ t.store.newestChain = s.store.newestChain
  | .monitor => t.monitor = s.monitor
  | .mark p => (t.port p).mark = (s.port p).mark

/-- Only the blocks listed may differ. -/
def ChangesOnly (changed : List Block) (s t : State) : Prop := ∀ b, b ∉ changed → b.Stands s t

theorem Block.Stands.trans {b : Block} {s t u : State} (h : b.Stands s t) (k : b.Stands t u) : b.Stands s u := by
  cases b with
  | contexts => exact ⟨k.1.trans h.1, k.2.1.trans h.2.1, k.2.2.trans h.2.2⟩
  | numbers => exact ⟨k.1.trans h.1, k.2.trans h.2⟩
  | _ => exact Eq.trans k h

theorem ChangesOnly.trans {l : List Block} {s t u : State} (h : ChangesOnly l s t) (k : ChangesOnly l t u) :
    ChangesOnly l s u := fun b hb => (h b hb).trans (k b hb)

/-- What is quiet changes no block. -/
theorem Quiet.changes {s t : State} (h : Quiet s t) (l : List Block) : ChangesOnly l s t := by
  intro b _
  cases b with
  | numbers => exact ⟨h.store.newest, h.store.chain⟩
  | mark p => exact h.marks p
  | _ => rw [h.rest]; simp [Block.Stands]

theorem ChangesOnly.refl (l : List Block) (s : State) : ChangesOnly l s s := (Quiet.refl s).changes l

/-- The blocks that a measured set or window may change. -/
def measuringBlocks : List Block :=
  [.link, .tracker, .engine, .estimator, .contexts, .builder, .matrix, .aggregator]

theorem Measured.changes {s t : State} (h : Measured s t) : ChangesOnly measuringBlocks s t := by
  intro b hb
  cases b with
  | inForce => exact congrArg Bank.inForce h.bank
  | numbers => exact ⟨h.store.keeps.newest, h.store.keeps.chain⟩
  | monitor => exact h.monitor
  | mark p => cases p; exacts [congrArg PortState.mark h.operator, congrArg PortState.mark h.consumer]
  | _ => exact absurd (by decide) hb

/-- The blocks that each command may change, by the rules that name its effects. -/
def blocksOf : Instr → List Block
  | .goodTransfer _ | .failedTransfer _ | .linkTick | .silentEntry | .referenceLoss | .freeRunBoundary => measuringBlocks
  | .burstExpiry => [.builder, .matrix]
  | .intervalBoundary => [.estimator, .aggregator, .inForce, .monitor]
  | .recordWriteComplete => [.numbers]
  | .epochWriteComplete => [.matrix, .numbers, .mark .operator, .mark .consumer]
  | .elapsedTick | .storeHoldupDone | .supplyCollapse | .supplyGoodRise | .powerUp | .retentionLoss => [.monitor]
  | .supplyGoodFall => [.contexts, .builder, .matrix, .aggregator, .monitor]
  | .steadinessWaitDone _ | .resetRelease _ => [.tracker, .contexts, .builder, .aggregator, .monitor]
  | .resetAssert => [.aggregator, .monitor]
  | .restartScanEnd => measuringBlocks ++ [.inForce, .numbers, .monitor, .mark .operator, .mark .consumer]
  | .collect p _ _ => [.mark p]
  | .timeSet _ _ _ | .timeStep _ _ _ => [.aggregator, .monitor]
  | _ => []

/-! ### What each operation changes -/

theorem State.setMark_changes (s : State) (p : Port) (n : Nat) : ChangesOnly [.mark p] s (s.setMark p n) := by
  intro b hb
  cases b with
  | mark q =>
    cases p <;> cases q
    · exact absurd List.mem_cons_self hb
    · rfl
    · rfl
    · exact absurd List.mem_cons_self hb
  | _ => simp [Block.Stands, State.setMark]

/-- A request that only asked changes time, the interval and its marks at most. -/
theorem Asked.changes {s t : State} (h : Asked s t) (marks : ∀ p, (t.port p).mark = (s.port p).mark) :
    ChangesOnly [.aggregator, .monitor] s t := by
  intro b hb
  cases b with
  | aggregator => exact absurd (by decide) hb
  | monitor => exact absurd (by decide) hb
  | mark p => exact marks p
  | _ => rw [h]; simp [Block.Stands]

theorem State.initialSet_port (s : State) (p q : Port) (t : Int) : (s.initialSet p t).port q = s.port q := by
  unfold State.initialSet
  dsimp only
  rw [State.deliver_port, State.intervalInitial_rest]
  cases q <;> rfl

theorem State.smallStep_port (s : State) (p q : Port) (x : Int) : (s.smallStep p x).port q = s.port q := by
  unfold State.smallStep
  dsimp only
  rw [State.deliver_port, State.intervalStep_rest]
  cases q <;> rfl

theorem State.serveTimeSet_changes (s : State) (p : Port) (tag : Byte) (value : BitVec 64) :
    ChangesOnly [.aggregator, .monitor] s (s.serveTimeSet p tag value) := by
  refine (s.serveTimeSet_asked p tag value).changes fun q => ?_
  unfold State.serveTimeSet
  dsimp only
  rw [(State.complete_quiet _ _ _ _ _ _ _).marks]
  split
  · rw [State.initialSet_port]
  · rfl

theorem State.serveTimeStep_changes (s : State) (p : Port) (tag : Byte) (value : BitVec 64) :
    ChangesOnly [.aggregator, .monitor] s (s.serveTimeStep p tag value) := by
  refine (s.serveTimeStep_asked p tag value).changes fun q => ?_
  unfold State.serveTimeStep
  dsimp only
  rw [(State.complete_quiet _ _ _ _ _ _ _).marks]
  split
  · rw [State.smallStep_port]
  · rfl

theorem State.request_changes {l : List Block} (s : State) (p : Port) (frame : List Byte) {act : State → State}
    (h : ∀ t, ChangesOnly l t (act t)) : ChangesOnly l s (s.request p frame act) := by
  obtain ⟨t, ht, e | e⟩ := s.request_cases p frame act
  · exact e ▸ (ht.changes l).trans (h t)
  · exact e ▸ ht.changes l

theorem State.serveCollect_changes (s : State) (p : Port) (tag : Byte) (number : BitVec 32) :
    ChangesOnly [.mark p] s (s.serveCollect p tag number) := by
  obtain h | h := s.serveCollect_cases p tag number
  · exact h.changes _
  · exact (s.setMark_changes p _).trans (h.changes _)

theorem State.expireBurst_changes (s : State) : ChangesOnly [.builder, .matrix] s s.expireBurst := by
  have keeps := s.expireBurst_keeps
  intro b hb
  cases b with
  | builder => exact absurd (by decide) hb
  | matrix => exact absurd (by decide) hb
  | numbers => exact ⟨keeps.newest, keeps.chain⟩
  | mark p => unfold State.expireBurst; cases p <;> simp [Block.Stands, State.port]
  | _ => unfold State.expireBurst; simp [Block.Stands]

theorem State.takeBoundary_changes (s : State) :
    ChangesOnly [.estimator, .aggregator, .inForce, .monitor] s s.takeBoundary := by
  have keeps := s.takeBoundary_keeps
  intro b hb
  cases b with
  | numbers => exact ⟨keeps.newest, keeps.chain⟩
  | mark p => cases p <;> rw [State.takeBoundary_rest] <;> rfl
  | estimator | aggregator | inForce | monitor => exact absurd (by decide) hb
  | _ => rw [State.takeBoundary_rest]; simp [Block.Stands]

theorem State.commitHead_changes (s : State) (bytes : List Byte) (chain : Chain) :
    ChangesOnly [.numbers] s { s with store := s.store.commitHead bytes chain } := by
  intro b hb
  cases b with
  | numbers => exact absurd (by decide) hb
  | mark p => cases p <;> rfl
  | _ => simp [Block.Stands]

theorem State.endReset_changes (s : State) (bytes : List Byte) (chain : Chain) :
    ChangesOnly [.matrix, .numbers, .mark .operator, .mark .consumer] s (s.endReset bytes chain) := by
  intro b hb
  cases b with
  | matrix | numbers => exact absurd (by decide) hb
  | mark p => cases p <;> exact absurd (by decide) hb
  | _ => simp [Block.Stands, State.endReset_rest]

/-- A change of the monitor alone. -/
theorem ChangesOnly.ofMonitor {l : List Block} (s : State) (m : Monitor) (h : Block.monitor ∈ l) :
    ChangesOnly l s { s with monitor := m } := by
  intro b hb
  cases b with
  | monitor => exact absurd h hb
  | mark p => cases p <;> rfl
  | _ => simp [Block.Stands]

theorem State.countElapsed_changes (s : State) : ChangesOnly [.monitor] s s.countElapsed := by
  unfold State.countElapsed
  split
  · exact .ofMonitor _ _ (by decide)
  · exact (s.useFree_quiet.changes _).trans (.ofMonitor _ _ (by decide))

theorem State.keepClock_changes (s : State) : ChangesOnly [.monitor] s s.keepClock := by
  unfold State.keepClock
  dsimp only
  split
  · exact .refl _ s
  · exact (s.useFree_quiet.changes _).trans (.ofMonitor _ _ (by decide))

theorem State.warn_changes (s : State) :
    ChangesOnly [.contexts, .builder, .matrix, .aggregator, .monitor] s s.warn := by
  have keeps := s.warn_keeps
  intro b hb
  cases b with
  | numbers => exact ⟨keeps.newest, keeps.chain⟩
  | mark p => exact s.warn_mark p
  | contexts | builder | matrix | aggregator | monitor => exact absurd (by decide) hb
  | _ => rw [State.warn_rest]; simp [Block.Stands]

/-- The part enters RETAIN: the monitor changes, and the scan's volatile items are no longer known. -/
theorem State.enterRetain_changes (s : State) (complete : Bool) : ChangesOnly [.monitor] s (s.enterRetain complete) := by
  intro b hb
  cases b with
  | monitor => exact absurd (by decide) hb
  | mark p => cases p <;> rfl
  | _ => rw [State.enterRetain_rest]; simp [Block.Stands]

theorem State.holdByReset_changes (s : State) : ChangesOnly [.aggregator, .monitor] s s.holdByReset := by
  unfold State.holdByReset
  have stopped := ((s.stopScan_quiet.trans (State.tear_quiet _)).trans (State.dropAreaWrites_quiet _)).trans
    (State.stopPorts_quiet _)
  refine (stopped.changes _).trans (ChangesOnly.trans ?_ ((State.finish_quiet _).changes _))
  intro b hb
  cases b with
  | aggregator | monitor => exact absurd (by decide) hb
  | mark p => cases p <;> rfl
  | _ => simp [Block.Stands]

theorem State.coldStart_changes (s : State) :
    ChangesOnly [.tracker, .contexts, .builder, .aggregator, .monitor] s s.coldStart := by
  intro b hb
  cases b with
  | contexts | builder | aggregator | monitor => exact absurd (by decide) hb
  | mark p => cases p <;> rfl
  | _ => simp [Block.Stands, State.coldStart]

theorem State.sampleStrap_changes (s : State) (strap : Bool) :
    ChangesOnly [.tracker, .contexts, .builder, .aggregator, .monitor] s (s.sampleStrap strap) := by
  intro b hb
  cases b with
  | tracker | monitor => exact absurd (by decide) hb
  | mark p => cases p <;> rfl
  | _ => simp [Block.Stands, State.sampleStrap]

theorem State.beginRestart_changes (s : State) (kind : RestartKind) (strap : Bool) :
    ChangesOnly [.tracker, .contexts, .builder, .aggregator, .monitor] s (s.beginRestart kind strap) := by
  unfold State.beginRestart
  refine ChangesOnly.trans ?_ (((ChangesOnly.ofMonitor _ _ (by decide)).trans
    (State.sampleStrap_changes _ _)).trans ((State.finish_quiet _).changes _))
  split
  · exact s.coldStart_changes
  · exact .refl _ s

end Sys2Proof.Machine
end

section
/-! O58: each block changes only at the commands that its rules name. -/

namespace Sys2Proof.Machine

open Sys2Proof

/-! ### One lemma for each group of commands -/

/-- The commands of the sample link and the tracker only measure. -/
theorem exec_measured {i : Instr} {s t : State} (hi : ofTheLink i = true) (h : exec i s = .next t) : Measured s t := by
  cases i <;> simp only [ofTheLink, Bool.false_eq_true] at hi <;> injection h with h
  case goodTransfer bytes => exact h ▸ s.transfer_measured bytes
  case failedTransfer bytes => exact h ▸ s.transfer_measured bytes
  case linkTick => exact h ▸ s.tick_measured
  case silentEntry => subst h; split; exacts [s.enterSilent_measured, .refl s]
  case referenceLoss => subst h; split; exacts [s.loseReference_measured, .refl s]
  case freeRunBoundary => subst h; split; exacts [s.placeBoundary_measured _, .refl s]

/-- A well-formed command of a port's master changes its own mark at a COLLECT, time and the interval at a TIME, and nothing
else but the store, the slots and the ports. -/
theorem exec_request_changes {i : Instr} {p : Port} {s t : State} (hp : senderOf i = some p) (hw : i.wf = true)
    (h : exec i s = .next t) : ChangesOnly (blocksOf i) s t := by
  cases i <;> simp only [senderOf, reduceCtorEq] at hp <;> injection h with h <;> subst h
  case readPeriod => exact (s.readEnds_quiet _ _).changes _
  case selectPeriodStart => exact (s.beginPeriod_quiet _).changes _
  case invalidRequestFrame q bytes =>
    have fails : (frameFailure q bytes).isSome = true := by simp_all [Instr.wf]
    exact (s.periodEnds_quiet q bytes fails).changes _
  case collect => exact s.request_changes _ _ fun t => t.serveCollect_changes _ _ _
  case timeSet => exact s.request_changes _ _ fun t => t.serveTimeSet_changes _ _ _
  case timeStep => exact s.request_changes _ _ fun t => t.serveTimeStep_changes _ _ _
  case timeBadForm =>
    exact (s.request_quiet _ _ fun t => t.serveTimeForm_quiet _ _ _ _ (by simpa [Instr.wf] using hw)).changes _
  case lodge =>
    refine (s.request_quiet _ _ fun t => ?_).changes _
    split
    · exact t.serveLodge_quiet _ _ _
    · exact t.refuseFrame_quiet _ _ _ _
  case status => exact (s.request_quiet _ _ fun t => t.complete_quiet _ _ _ _ _ _).changes _
  case readRecords => exact (s.request_quiet _ _ fun t => t.prepare_quiet _ _).changes _
  case readLive => exact (s.request_quiet _ _ fun t => t.complete_quiet _ _ _ _ _ _).changes _
  case readMatrix => exact (s.request_quiet _ _ fun t => t.complete_quiet _ _ _ _ _ _).changes _
  case readSettings => exact (s.request_quiet _ _ fun t => t.serveReadSettings_quiet _ _ _ _).changes _
  case withdraw => exact (s.request_quiet _ _ fun t => t.serveWithdraw_quiet _ _).changes _
  case setNotify => exact (s.request_quiet _ _ fun t => t.serveSetNotify_quiet _ _ _).changes _
  case flush => exact (s.request_quiet _ _ fun t => t.serveFlush_quiet _ _).changes _

/-- The commands of the store, the arbiter and the settings area, and the part's own timers, that change no block of the
table. -/
def worksQuietly : Instr → Bool
  | .proposalExpiry _ | .releaseCheck | .heldBackGapQueue | .arbiterGrant | .padFillComplete | .eraseComplete
  | .resetEraseComplete | .areaWriteComplete | .flushComplete _ => true
  | _ => false

theorem exec_quiet {i : Instr} {s t : State} (hi : worksQuietly i = true) (h : exec i s = .next t) : Quiet s t := by
  cases i <;> simp only [worksQuietly, Bool.false_eq_true] at hi <;> injection h with h <;> subst h
  case proposalExpiry p => split; exacts [s.emptySlot_quiet p, .refl s]
  case releaseCheck => split; exacts [.refl s, s.checkRelease_quiet _]
  case heldBackGapQueue => split; exacts [s.queueGapRecord_quiet, .refl s]
  case arbiterGrant => split; exacts [s.grant_quiet, .refl s]
  case padFillComplete =>
    split; exacts [(State.afterCompletion_quiet _).after (.ofStore (.sameQueue rfl rfl rfl)), .refl s]
  case eraseComplete =>
    split; exacts [(State.afterCompletion_quiet _).after (.ofStore (.sameQueue rfl rfl rfl)), .refl s]
  case resetEraseComplete =>
    split; exacts [(State.finish_quiet _).after (.ofStore (.sameQueue rfl rfl rfl)), .refl s]
  case areaWriteComplete => split; exacts [.refl s, s.completeAreaWrite_quiet _ _]
  case flushComplete p => split; exacts [.refl s, s.complete_quiet _ _ _ _ _ _]

/-- A command of the supply, the reset line or the restart. -/
theorem exec_supply_changes {i : Instr} {s t : State} (hi : ofTheSupply i = true) (h : exec i s = .next t) :
    ChangesOnly (blocksOf i) s t := by
  cases i <;> simp only [ofTheSupply, Bool.false_eq_true] at hi <;> injection h with h <;> subst h
  case supplyGoodFall =>
    split
    · exact .refl _ s
    · split
      · exact s.warn_changes
      · exact (s.stopScan_quiet.changes _).trans (State.warn_changes _)
      · exact .ofMonitor _ _ (by decide)
      · exact .ofMonitor _ _ (by decide)
  case storeHoldupDone =>
    split
    · exact ((Quiet.ofBank rfl).changes _).trans (State.enterRetain_changes _ _)
    · exact .refl _ s
  case supplyCollapse =>
    split
    · exact ((s.tear_quiet.trans (State.dropAreaWrites_quiet _)).changes _).trans (State.enterRetain_changes _ _)
    · exact .refl _ s
  case supplyGoodRise =>
    split
    · exact .refl _ s
    · split
      all_goals exact .ofMonitor _ _ (by decide)
  case steadinessWaitDone => split; exacts [s.beginRestart_changes _ _, .refl _ s]
  case powerUp =>
    have stopped := ((s.stopScan_quiet.trans (State.tear_quiet _)).trans (State.dropAreaWrites_quiet _)).trans
      (State.stopPorts_quiet _)
    exact ((stopped.changes _).trans (State.enterRetain_changes _ _)).trans (.ofMonitor _ _ (by decide))
  case retentionLoss => split; exacts [.ofMonitor _ _ (by decide), .refl _ s]
  case resetAssert =>
    split
    · exact .refl _ s
    · split
      · exact s.holdByReset_changes
      · exact s.holdByReset_changes
      · exact .ofMonitor _ _ (by decide)
      · exact .ofMonitor _ _ (by decide)
  case resetRelease strap =>
    split
    · exact .refl _ s
    · refine (ChangesOnly.ofMonitor s { s.monitor with resetHigh := true } (by simp [blocksOf])).trans ?_
      unfold State.releaseReset
      split
      · exact State.beginRestart_changes _ _ _
      · split
        · exact State.beginRestart_changes _ _ _
        · exact .refl _ _
  case restartScanEnd =>
    intro b hb
    cases b with
    | mark p => cases p <;> exact absurd (by decide) hb
    | _ => exact absurd (by decide) hb

/-- Every well-formed command changes only the blocks that the table gives it. -/
theorem exec_changes {i : Instr} {s t : State} (hw : i.wf = true) (h : exec i s = .next t) :
    ChangesOnly (blocksOf i) s t := by
  by_cases link : ofTheLink i = true
  · have e : blocksOf i = measuringBlocks := by cases i <;> simp_all [ofTheLink, blocksOf]
    exact e ▸ (exec_measured link h).changes
  by_cases supply : ofTheSupply i = true
  · exact exec_supply_changes supply h
  by_cases quiet : worksQuietly i = true
  · exact (exec_quiet quiet h).changes _
  cases sender : senderOf i with
  | some p => exact exec_request_changes sender hw h
  | none =>
    cases i <;> simp [ofTheLink, ofTheSupply, worksQuietly, senderOf] at link supply quiet sender
      <;> injection h with h <;> subst h
    case burstExpiry => split; exacts [s.expireBurst_changes, .refl _ s]
    case intervalBoundary => split; exacts [s.takeBoundary_changes, .refl _ s]
    case recordWriteComplete =>
      split
      · exact (s.commitHead_changes _ _).trans ((State.afterCompletion_quiet _).changes _)
      · exact .refl _ s
    case epochWriteComplete =>
      split
      · exact (s.endReset_changes _ _).trans (((State.holdupWrite_quiet _).trans (State.finish_quiet _)).changes _)
      · exact .refl _ s
    case elapsedTick => split; exacts [.refl _ s, s.countElapsed_changes.trans (State.keepClock_changes _)]

/-- A collection mark stands in the table for its own port's COLLECT, the end of an epoch reset and the scan alone. -/
theorem mark_notMem_blocksOf {i : Instr} {p : Port} (collect : ∀ tag n, i ≠ .collect p tag n)
    (epoch : i ≠ .epochWriteComplete) (scan : i ≠ .restartScanEnd) : Block.mark p ∉ blocksOf i := by
  cases i <;> simp_all [blocksOf, measuringBlocks]
  case collect => exact fun e => collect e.symm

/-- Settles O58: the table `blocksOf`, which every command keeps to, gives each block to the commands that the statement
excepts for it. -/
theorem eachBlockKeepsToItsCommands : Obligations.EachBlockKeepsToItsCommands := by
  intro i s t hw h
  have only := exec_changes hw h
  refine ⟨fun link scan => ⟨only .link ?_, only .engine ?_, fun restart => only .tracker ?_, fun b => only .estimator ?_,
    fun restart fall => ?contexts⟩, fun b scan => only .inForce ?_, fun write epoch scan => only .numbers ?_,
    fun tick b time supply => only .monitor ?_,
    fun p collect epoch scan => only _ (mark_notMem_blocksOf collect epoch scan)⟩
  case contexts =>
    obtain ⟨red, swell, gap⟩ := only .contexts (by cases i <;> simp_all [blocksOf, ofTheLink, startsRestart])
    refine ⟨red, swell, gap, fun burst => ⟨only .builder ?_, fun epoch => only .matrix ?_⟩,
      fun b line time => only .aggregator ?_⟩
    all_goals cases i <;> simp_all [blocksOf, ofTheLink, startsRestart, movesTime]
  all_goals
    cases i <;> simp_all [blocksOf, measuringBlocks, ofTheLink, startsRestart, movesTime, ofTheSupply]

end Sys2Proof.Machine
end

section
/-! O56: no command grows a buffer past its size. -/

namespace Sys2Proof.Machine

open Sys2Proof

/-- From `s` to `t` the buffers and the matrix stay within their sizes (R2, R17, R59, R71, R80), and so does the commit
queue (R105). -/
structure KeepsBounds (s t : State) : Prop where
  buffers : s.buffersSound → t.buffersSound
  matrix : s.matrixSound → t.matrixSound
  queue : s.store.queue.length ≤ queueCapacity → t.store.queue.length ≤ queueCapacity

theorem KeepsBounds.refl (s : State) : KeepsBounds s s := ⟨id, id, id⟩

theorem KeepsBounds.trans {s t u : State} (h : KeepsBounds s t) (k : KeepsBounds t u) : KeepsBounds s u :=
  ⟨fun z => k.buffers (h.buffers z), fun z => k.matrix (h.matrix z), fun z => k.queue (h.queue z)⟩

/-- `KeepsBounds.trans` with its steps named from the last. -/
theorem KeepsBounds.after {s t u : State} (k : KeepsBounds t u) (h : KeepsBounds s t) : KeepsBounds s u := h.trans k

/-- The buffers and the matrix depend on six blocks alone. -/
theorem KeepsBounds.sameBuffers {s t : State} (he : t.engine.history = s.engine.history) (hl : t.link.marks = s.link.marks)
    (hr : t.estimator.ring = s.estimator.ring) (hb : t.builder = s.builder) (hd : t.reduction = s.reduction)
    (hm : t.matrix = s.matrix) (hq : s.store.queue.length ≤ queueCapacity → t.store.queue.length ≤ queueCapacity) :
    KeepsBounds s t := by
  refine ⟨fun z => ?_, fun z => ?_, hq⟩
  · unfold State.buffersSound at *; rwa [he, hl, hr, hb, hd]
  · unfold State.matrixSound at *; rwa [hm]

theorem Quiet.keepsBounds {s t : State} (h : Quiet s t) : KeepsBounds s t := by
  refine .sameBuffers ?_ ?_ ?_ ?_ ?_ ?_ h.store.bounded
  all_goals rw [h.rest]

theorem State.deliver_keepsBounds (s : State) (records : List Record) : KeepsBounds s (s.deliver records) := by
  have recorded := s.deliver_recorded records
  refine ⟨fun z => ?_, recorded.matrix, recorded.store.bounded⟩
  unfold State.buffersSound at *
  simpa using z

/-! ### Windows -/

/-- R61: the ring never grows past 20 entries. -/
theorem Estimator.window_ring_length (e : Estimator) (kind : WindowKind) (v : ValueSet) (h : e.ring.length ≤ 20) :
    (e.window kind v).ring.length ≤ 20 := by
  unfold Estimator.window
  split
  · exact h
  · split
    · exact List.length_take_le _ _
    all_goals exact h

theorem State.invalidWindow_buffersSound {s : State} (v : ValueSet) (h : s.buffersSound) :
    (s.invalidWindow v).buffersSound := by
  obtain ⟨history, marks, ring, members, room⟩ := h
  have ring' := s.estimator.window_ring_length .neither v ring
  unfold State.invalidWindow
  dsimp only
  split
  · exact ⟨history, marks, Nat.zero_le _, members, by simpa using room⟩
  · exact ⟨history, marks, ring', members, room⟩

/-- What the checks of R40 can make of the context: it opened on no context, it closes an open one, or it stands as it stood,
open or not. -/
theorem reductionWindow_cases (set : Settings) (c : PhaseSet) (v : ValueSet) (q : Quality) (ring : List RingEntry)
    (context : Option Reduction) :
    let step := reductionWindow set c v q ring context
    (step.opened = true ∧ step.closing = false)
      ∨ (step.opened = false ∧ step.closing = true ∧ context.isSome = true)
      ∨ (step.opened = false ∧ step.closing = false ∧ step.context.isSome = context.isSome) := by
  unfold reductionWindow Reduction.checkDip
  cases context with
  | none => dsimp only; split <;> simp
  | some r => dsimp only; split <;> (repeat' split) <;> simp

theorem Builder.notice_members (b : Builder) (h : b.members.length ≤ 8) : b.notice.1.members.length ≤ 7 := by
  unfold Builder.notice burstCapacity
  split
  · simp_all
  · split
    · exact Nat.zero_le _
    · dsimp only; omega

theorem Builder.summary_members (b : Builder) (window : Nat) (m : Summary) (h : b.members.length ≤ 7) :
    (b.summary window m).1.members.length ≤ 8 := by
  unfold Builder.summary
  split
  · exact Nat.le_succ_of_le h
  · simpa using Nat.succ_le_succ h

theorem RedStep.build_members (t : RedStep) (context : Option Reduction) (set : Settings) (v : ValueSet) (b : Builder) :
    (t.opened = true → b.members.length ≤ 8 → (t.build context set v b).1.members.length ≤ 7)
      ∧ (t.opened = false → b.members.length ≤ 7 → (t.build context set v b).1.members.length ≤ 8)
      ∧ (t.opened = false → t.closing = false → (t.build context set v b).1 = b) := by
  unfold RedStep.build
  refine ⟨fun ho h => ?_, fun ho h => ?_, fun ho hc => ?_⟩
  · rw [if_pos ho]; exact b.notice_members h
  · rw [ho, if_neg Bool.false_ne_true]
    split
    · exact b.summary_members _ _ h
    · exact Nat.le_succ_of_le h
  · simp [ho, hc]

theorem RedStep.accumulated_isSome (t : RedStep) (kind : WindowKind) (v : ValueSet) :
    (t.accumulated kind v).isSome = t.context.isSome := by simp [RedStep.accumulated]

/-- A valid window keeps the builder within its members, one of them free while a reduction is open (R71 to R73): an opening
frees one by its notice, and a close takes the one that was free. -/
theorem State.validWindow_builder {s : State} (v : ValueSet) (h8 : s.builder.members.length ≤ 8)
    (h7 : s.reduction.isSome = true → s.builder.members.length ≤ 7) :
    (s.validWindow v).builder.members.length ≤ 8
      ∧ ((s.validWindow v).reduction.isSome = true → (s.validWindow v).builder.members.length ≤ 7) := by
  unfold State.validWindow
  simp only [State.deliver_builder, State.deliver_reduction]
  have cases := reductionWindow_cases s.bank.inForce s.considered v s.tracker.setQuality s.estimator.ring s.reduction
  generalize reductionWindow s.bank.inForce s.considered v s.tracker.setQuality s.estimator.ring s.reduction = step at *
  generalize hc : step.accumulated _ v = context
  have open_iff : context.isSome = step.context.isSome := by rw [← hc, RedStep.accumulated_isSome]
  obtain ⟨opening, closing, standing⟩ := step.build_members context s.bank.inForce v s.builder
  obtain ⟨opened, closes⟩ | ⟨opened, closes, was⟩ | ⟨opened, closes, was⟩ := cases
  · have := opening opened h8
    exact ⟨by omega, fun _ => this⟩
  · exact ⟨closing opened (h7 was), by simp [closes]⟩
  · rw [standing opened closes]
    exact ⟨h8, fun h => h7 (by simpa [closes, open_iff, was] using h)⟩

theorem State.validWindow_buffersSound {s : State} (v : ValueSet) (h : s.buffersSound) : (s.validWindow v).buffersSound := by
  obtain ⟨history, marks, ring, members, room⟩ := h
  obtain ⟨members', room'⟩ := State.validWindow_builder v members room
  refine ⟨?_, ?_, ?_, members', room'⟩
  all_goals unfold State.validWindow; simp only [State.deliver_engine, State.deliver_link, State.deliver_estimator]
  · exact history
  · exact marks
  · exact Estimator.window_ring_length _ _ _ ring

theorem State.takeWindow_keepsBounds (s : State) (v : ValueSet) : KeepsBounds s (s.takeWindow v) := by
  have measured := s.takeWindow_measured v
  refine ⟨fun h => ?_, measured.matrix, measured.store.bounded⟩
  unfold State.takeWindow
  split
  · exact State.validWindow_buffersSound v h
  · exact State.invalidWindow_buffersSound v h

/-! ### Sets handed on -/

theorem State.expireBurst_keepsBounds (s : State) : KeepsBounds s s.expireBurst := by
  unfold State.expireBurst
  refine (State.deliver_keepsBounds _ _).after ⟨fun h => ?_, id, id⟩
  obtain ⟨history, marks, ring, -, -⟩ := h
  exact ⟨history, marks, ring, Nat.zero_le _, fun _ => Nat.zero_le _⟩

theorem State.settleBurst_keepsBounds (s : State) (elapsed : Nat) : KeepsBounds s (s.settleBurst elapsed) := by
  unfold State.settleBurst
  split
  · exact s.expireBurst_keepsBounds
  · exact .refl s

theorem State.placeBoundary_keepsBounds (s : State) (n : Nat) : KeepsBounds s (s.placeBoundary n) := by
  unfold State.placeBoundary
  exact (State.takeWindow_keepsBounds _ _).after ((State.settleBurst_keepsBounds _ _).after ⟨id, id, id⟩)

theorem State.loseReference_keepsBounds (s : State) : KeepsBounds s s.loseReference := by
  unfold State.loseReference
  exact (State.placeBoundary_keepsBounds _ _).after ⟨id, id, id⟩

theorem State.settleBoundary_keepsBounds (s : State) : KeepsBounds s s.settleBoundary := by
  unfold State.settleBoundary
  split
  · exact s.loseReference_keepsBounds
  · split
    · exact s.placeBoundary_keepsBounds _
    · exact .refl s

theorem State.countedCrossing_keepsBounds (s : State) (d : Direction) : KeepsBounds s (s.countedCrossing d) := by
  unfold State.countedCrossing
  dsimp only
  split
  · exact (State.placeBoundary_keepsBounds _ _).after ⟨id, id, id⟩
  · split
    · exact (State.placeBoundary_keepsBounds _ _).after ⟨id, id, id⟩
    · exact ⟨id, id, id⟩

theorem State.examine_keepsBounds (s : State) (x : Int) : KeepsBounds s (s.examine x) := by
  have signed : KeepsBounds s { s with tracker := { s.tracker with lastDir := some (signOf x) } } := ⟨id, id, id⟩
  unfold State.examine
  dsimp only
  split
  · exact signed
  · split
    · exact signed.trans (State.countedCrossing_keepsBounds _ _)
    · exact signed

/-- R6, R18: a set handed on drops the oldest of 256. -/
theorem State.handOn_keepsBounds (s : State) (x : SampleSet) (substituted : Bool) :
    KeepsBounds s (s.handOn x substituted) := by
  unfold State.handOn
  refine (State.examine_keepsBounds _ _).after (s.settleBoundary_keepsBounds.trans ⟨fun h => ?_, id, id⟩)
  obtain ⟨-, -, ring, members, room⟩ := h
  exact ⟨List.length_take_le _ _, List.length_take_le _ _, ring, members, room⟩

theorem State.substitutes_keepsBounds (n : Nat) (s : State) : KeepsBounds s (State.substitutes n s) := by
  induction n generalizing s with
  | zero => exact .refl s
  | succ n ih =>
    refine (ih _).after ?_
    unfold State.substitute
    exact (State.handOn_keepsBounds _ _ _).after ⟨id, id, id⟩

theorem State.settleSilence_keepsBounds (s : State) : KeepsBounds s s.settleSilence := by
  unfold State.settleSilence State.enterSilent
  split
  · exact (State.substitutes_keepsBounds _ _).after ⟨id, id, id⟩
  · exact .refl s

theorem State.takeSet_keepsBounds (s : State) (number : Byte) (x : SampleSet) : KeepsBounds s (s.takeSet number x) := by
  unfold State.takeSet
  exact (State.handOn_keepsBounds _ _ _).after ⟨id, id, id⟩

theorem State.goodSet_keepsBounds (s : State) (number : Byte) (x : SampleSet) : KeepsBounds s (s.goodSet number x) := by
  have heard : KeepsBounds s { s with link := { s.link with state := .running, silence := 0 } } := ⟨id, id, id⟩
  unfold State.goodSet
  dsimp only
  split
  · exact heard.trans (State.takeSet_keepsBounds _ _ _)
  · split
    · exact heard
    · exact heard.trans ((State.substitutes_keepsBounds _ _).trans (State.takeSet_keepsBounds _ _ _))

theorem State.failedSet_keepsBounds (s : State) : KeepsBounds s s.failedSet := by
  unfold State.failedSet
  split
  · exact (State.substitutes_keepsBounds 1 _).after ⟨id, id, id⟩
  · exact .refl s

theorem State.transfer_keepsBounds (s : State) (bytes : List Byte) : KeepsBounds s (s.transfer bytes) := by
  unfold State.transfer
  split
  · refine s.settleSilence_keepsBounds.trans ?_
    dsimp only
    split
    · exact State.goodSet_keepsBounds _ _ _
    · exact State.failedSet_keepsBounds _
  · exact .refl s

theorem State.tick_keepsBounds (s : State) : KeepsBounds s s.tick := by
  unfold State.tick
  split
  · refine s.settleSilence_keepsBounds.trans ?_
    dsimp only
    split
    · exact ⟨id, id, id⟩
    · exact State.substitutes_keepsBounds 1 _
  · exact .refl s

theorem exec_link_keepsBounds {i : Instr} {s t : State} (hi : ofTheLink i = true) (h : exec i s = .next t) :
    KeepsBounds s t := by
  cases i <;> simp only [ofTheLink, Bool.false_eq_true] at hi <;> injection h with h <;> subst h
  case goodTransfer bytes => exact s.transfer_keepsBounds bytes
  case failedTransfer bytes => exact s.transfer_keepsBounds bytes
  case linkTick => exact s.tick_keepsBounds
  case silentEntry => split; exacts [(State.substitutes_keepsBounds 3 _).after ⟨id, id, id⟩, .refl s]
  case referenceLoss => split; exacts [s.loseReference_keepsBounds, .refl s]
  case freeRunBoundary => split; exacts [s.placeBoundary_keepsBounds _, .refl s]

/-! ### Requests -/

theorem State.initialSet_keeps (s : State) (p : Port) (t : Int) : StoreKeeps s.store (s.initialSet p t).store := by
  unfold State.initialSet
  dsimp only
  refine (State.deliver_keeps _ _).after ?_
  rw [State.intervalInitial_rest]
  exact .refl _

theorem State.smallStep_keeps (s : State) (p : Port) (x : Int) : StoreKeeps s.store (s.smallStep p x).store := by
  unfold State.smallStep
  dsimp only
  refine (State.deliver_keeps _ _).after ?_
  rw [State.intervalStep_rest]
  exact .refl _

theorem State.serveTimeSet_keeps (s : State) (p : Port) (tag : Byte) (value : BitVec 64) :
    StoreKeeps s.store (s.serveTimeSet p tag value).store := by
  unfold State.serveTimeSet
  dsimp only
  refine (State.complete_quiet _ _ _ _ _ _ _).store.after ?_
  split
  · exact s.initialSet_keeps _ _
  · exact .refl _

theorem State.serveTimeStep_keeps (s : State) (p : Port) (tag : Byte) (value : BitVec 64) :
    StoreKeeps s.store (s.serveTimeStep p tag value).store := by
  unfold State.serveTimeStep
  dsimp only
  refine (State.complete_quiet _ _ _ _ _ _ _).store.after ?_
  split
  · exact s.smallStep_keeps _ _
  · exact .refl _

/-- No request commits a record or grows the queue past its size. -/
theorem State.serve_keeps (i : Instr) (s : State) : StoreKeeps s.store (s.serve i).store := by
  cases i
  case status => exact (s.complete_quiet _ _ _ _ _ _).store
  case readRecords => exact (s.prepare_quiet _ _).store
  case collect p tag number =>
    obtain h | h := s.serveCollect_cases p tag number
    · exact h.store
    · exact (State.setPort_store _ _ _) ▸ h.store
  case readLive => exact (s.complete_quiet _ _ _ _ _ _).store
  case readMatrix => exact (s.complete_quiet _ _ _ _ _ _).store
  case readSettings => exact (s.serveReadSettings_quiet _ _ _ _).store
  case lodge => exact (s.serveLodge_quiet _ _ _).store
  case withdraw => exact (s.serveWithdraw_quiet _ _).store
  case timeSet => exact s.serveTimeSet_keeps _ _ _
  case timeStep => exact s.serveTimeStep_keeps _ _ _
  case timeBadForm p tag form value =>
    simp only [State.serve]
    unfold State.serveTimeForm
    split
    · exact s.serveTimeSet_keeps _ _ _
    · exact s.serveTimeStep_keeps _ _ _
    · exact (s.complete_quiet _ _ _ _ _ _).store
  case setNotify => exact (s.serveSetNotify_quiet _ _ _).store
  case flush => exact (s.serveFlush_quiet _ _).store
  all_goals exact .refl _

theorem State.serveFrame_keeps (s : State) (p : Port) (bytes : List Byte) :
    StoreKeeps s.store (s.serveFrame p bytes).store := by
  unfold State.serveFrame
  split
  · exact (s.refuseFrame_quiet _ _ _ _).store
  · split
    · exact s.serve_keeps _
    · exact .refl _

theorem State.request_keeps (s : State) (p : Port) (frame : List Byte) {act : State → State}
    (h : ∀ t, StoreKeeps t.store (act t).store) : StoreKeeps s.store (s.request p frame act).store := by
  obtain ⟨t, ht, e | e⟩ := s.request_cases p frame act
  · exact e ▸ ht.store.trans (h t)
  · exact e ▸ ht.store

theorem State.periodEnds_keeps (s : State) (p : Port) (bytes : List Byte) :
    StoreKeeps s.store (s.periodEnds p bytes).store := by
  unfold State.periodEnds
  split
  · exact (s.endPeriod_quiet _ _ _).store
  · split
    · exact (s.readEnds_quiet _ _).store
    · exact s.request_keeps _ _ fun t => t.serveFrame_keeps p bytes

/-- A command of a port's master commits no record, and keeps the queue within its size. -/
theorem exec_request_keeps {i : Instr} {p : Port} {s t : State} (hp : senderOf i = some p) (h : exec i s = .next t) :
    StoreKeeps s.store t.store := by
  have fromServe : ∀ q frame j, s.request q frame (fun u => u.serve j) = t → StoreKeeps s.store t.store :=
    fun q frame j e => e ▸ s.request_keeps _ _ fun u => u.serve_keeps j
  cases i <;> simp only [senderOf, reduceCtorEq] at hp <;> injection h with h
  case readPeriod => exact h ▸ (s.readEnds_quiet _ _).store
  case selectPeriodStart => exact h ▸ (s.beginPeriod_quiet _).store
  case invalidRequestFrame => exact h ▸ s.periodEnds_keeps _ _
  case lodge q tag pairs =>
    refine h ▸ s.request_keeps _ _ fun u => ?_
    split
    · exact (u.serveLodge_quiet _ _ _).store
    · exact (u.refuseFrame_quiet _ _ _ _).store
  case status q g => exact fromServe _ _ (.status q g) h
  case readRecords q g f c => exact fromServe _ _ (.readRecords q g f c) h
  case collect q g n => exact fromServe _ _ (.collect q g n) h
  case readLive q g => exact fromServe _ _ (.readLive q g) h
  case readMatrix q g => exact fromServe _ _ (.readMatrix q g) h
  case readSettings q g f l => exact fromServe _ _ (.readSettings q g f l) h
  case withdraw q g => exact fromServe _ _ (.withdraw q g) h
  case timeSet q g v => exact fromServe _ _ (.timeSet q g v) h
  case timeStep q g v => exact fromServe _ _ (.timeStep q g v) h
  case timeBadForm q g f v => exact fromServe _ _ (.timeBadForm q g f v) h
  case setNotify q g v => exact fromServe _ _ (.setNotify q g v) h
  case flush q g => exact fromServe _ _ (.flush q g) h

theorem exec_request_keepsBounds {i : Instr} {p : Port} {s t : State} (hp : senderOf i = some p)
    (h : exec i s = .next t) : KeepsBounds s t := by
  have asked : Asked s t := exec_asked i p s t hp h
  refine .sameBuffers ?_ ?_ ?_ ?_ ?_ ?_ (exec_request_keeps hp h).bounded
  all_goals rw [asked]

/-! ### The store, a boundary, the supply and the restart -/

/-- 31 cells of 32 bits (R80): `State.matrixSound` of a state with these cells. -/
def CellsSound (cells : List Nat) : Prop := cells.length = 31 ∧ ∀ n ∈ cells, n ≤ max32

theorem State.matrixSound_iff (s : State) : s.matrixSound ↔ CellsSound s.matrix := Iff.rfl

theorem matrixClear_sound : CellsSound matrixClear := by unfold CellsSound; decide

theorem bumpCell_sound {cells : List Nat} (i : Nat) (h : CellsSound cells) : CellsSound (bumpCell cells i) := by
  unfold bumpCell
  refine ⟨by simpa using h.1, fun n hn => ?_⟩
  obtain ⟨j, hj, rfl⟩ := List.mem_iff_getElem.1 hn
  rw [List.getElem_modify]
  split
  · exact Nat.min_le_left _ _
  · exact h.2 _ (List.getElem_mem _)

/-- R84: the matrix rebuilt from any records is sound. -/
theorem rebuiltMatrix_sound (records : List Stored) : CellsSound (rebuiltMatrix records) := by
  unfold rebuiltMatrix
  refine List.foldlRecOn (motive := CellsSound) records _ matrixClear_sound fun cells h r _ => ?_
  split
  · exact h
  · exact bumpCell_sound _ h

theorem Store.commitHead_queue_length (t : Store) (bytes : List Byte) (chain : Chain) :
    (t.commitHead bytes chain).queue.length ≤ t.queue.length := by
  unfold Store.commitHead
  split
  · rename_i h; rw [h]
  · rename_i h; simp [h]

theorem State.commitHead_keepsBounds (s : State) (bytes : List Byte) (chain : Chain) :
    KeepsBounds s { s with store := s.store.commitHead bytes chain } :=
  ⟨id, id, (s.store.commitHead_queue_length bytes chain).trans⟩

theorem State.endReset_keepsBounds (s : State) (bytes : List Byte) (chain : Chain) :
    KeepsBounds s (s.endReset bytes chain) := ⟨id, fun _ => matrixClear_sound, id⟩

/-- R62: a boundary leaves the ring as it stands, or a commit at it empties the ring. -/
theorem State.takeBoundary_estimator (s : State) :
    s.takeBoundary.estimator = s.estimator ∨ s.takeBoundary.estimator = s.estimator.committed := by
  unfold State.takeBoundary State.boundaryNotice
  dsimp only
  rw [State.finish_estimator]
  split
  · split
    · rw [State.commitNotices_rest, State.commitEpoch_rest]; exact .inr rfl
    · rw [State.commitNotices_rest, State.commitRecord_rest]; exact .inr rfl
  · exact .inl (by simp [State.setBoundary, State.openInterval])

theorem State.takeBoundary_keepsBounds (s : State) : KeepsBounds s s.takeBoundary := by
  refine ⟨fun h => ?_, fun h => ?_, s.takeBoundary_keeps.bounded⟩
  · obtain ⟨history, marks, ring, members, room⟩ := h
    have ring' : s.takeBoundary.estimator.ring.length ≤ 20 := by
      obtain e | e := s.takeBoundary_estimator
      · rwa [e]
      · rw [e]; exact Nat.zero_le _
    refine ⟨?_, ?_, ring', ?_, ?_⟩
    all_goals rw [State.takeBoundary_rest]
    · exact history
    · exact marks
    · exact members
    · exact room
  · rw [State.takeBoundary_rest]; exact h

/-- R47: the warning opens a reduction exactly where none is open. -/
theorem reductionWarning_opens (c : PhaseSet) (now : Stamp) (ring : List RingEntry) (context : Option Reduction) :
    (reductionWarning c now ring context).2 = context.isNone := by
  unfold reductionWarning
  cases context with
  | none => rfl
  | some r => dsimp only; split <;> rfl

/-- R47, R73: the builder after the warning leaves a member free for the reduction that is open then. -/
theorem warned_members {c : PhaseSet} {now : Stamp} {ring : List RingEntry} {context : Option Reduction} {b : Builder}
    (h8 : b.members.length ≤ 8) (h7 : context.isSome = true → b.members.length ≤ 7) :
    (if (reductionWarning c now ring context).2 then b.notice else (b, none)).1.members.length ≤ 7 := by
  rw [reductionWarning_opens]
  cases context with
  | none => exact b.notice_members h8
  | some r => exact h7 rfl

theorem State.warn_keepsBounds (s : State) : KeepsBounds s s.warn := by
  unfold State.warn
  refine ((State.finish_quiet _).after (State.holdupWrite_quiet _)).keepsBounds.after
    ((State.deliver_keepsBounds _ _).after ((State.stopPorts_quiet _).keepsBounds.after
      ((s.settleBurst_keepsBounds _).trans ⟨fun h => ?_, id, id⟩)))
  obtain ⟨history, marks, ring, members, room⟩ := h
  exact ⟨history, marks, ring, Nat.le_succ_of_le (warned_members members room), fun _ => warned_members members room⟩

theorem State.coldStart_keepsBounds (s : State) : KeepsBounds s s.coldStart := by
  refine ⟨fun h => ?_, id, fun _ => Nat.zero_le _⟩
  obtain ⟨history, marks, ring, -, -⟩ := h
  exact ⟨history, marks, ring, Nat.zero_le _, fun _ => Nat.zero_le _⟩

theorem State.beginRestart_keepsBounds (s : State) (kind : RestartKind) (strap : Bool) :
    KeepsBounds s (s.beginRestart kind strap) := by
  have started : KeepsBounds s (if kind = .cold then s.coldStart else s) := by
    split
    · exact s.coldStart_keepsBounds
    · exact .refl s
  unfold State.beginRestart
  exact (State.finish_quiet _).keepsBounds.after (started.trans ⟨id, id, id⟩)

theorem State.holdByReset_keepsBounds (s : State) : KeepsBounds s s.holdByReset := by
  unfold State.holdByReset
  have stopped := ((s.stopScan_quiet.trans (State.tear_quiet _)).trans (State.dropAreaWrites_quiet _)).trans
    (State.stopPorts_quiet _)
  exact (State.finish_quiet _).keepsBounds.after (stopped.keepsBounds.trans ⟨id, id, id⟩)

theorem State.enterRetain_keepsBounds (s : State) (complete : Bool) : KeepsBounds s (s.enterRetain complete) :=
  (State.finish_quiet _).keepsBounds.after ⟨id, id, id⟩

theorem State.settleEpoch_keepsBounds (s : State) : KeepsBounds s s.settleEpoch := by
  unfold State.settleEpoch
  split
  · exact ⟨id, id, id⟩
  · split
    · exact (State.endDrain_quiet _).keepsBounds.after ⟨id, id, id⟩
    · split
      · unfold State.beginEpoch
        dsimp only
        split <;> exact ⟨id, id, id⟩
      · split
        · exact ⟨id, id, id⟩
        · exact .refl s

theorem State.recoverSettings_keepsBounds (s : State) (records : List Stored) :
    KeepsBounds s (s.recoverSettings records) := by
  have newer : ∀ (t : State) found, KeepsBounds t (t.applyNewer found) := fun t found => by
    unfold State.applyNewer
    split
    · exact .refl t
    · exact ⟨id, id, id⟩
  unfold State.recoverSettings
  dsimp only
  split
  · split
    · exact (newer _ _).after ⟨id, id, id⟩
    · exact ((State.handOver_quiet _ _).trans (State.writeArea_quiet _ _)).keepsBounds.after
        ((newer _ _).after ⟨id, id, id⟩)
  · exact ⟨id, id, id⟩

theorem State.finishScan_keepsBounds (s : State) (kind : RestartKind) (r : ScanResult) :
    KeepsBounds s (s.finishScan kind r) := by
  have matched : KeepsBounds s { s with store := (s.store.scannedAs r s.bank.areaAhead).matchQueue } :=
    ⟨id, id, (List.length_filter_le _ _).trans⟩
  have cold : ∀ t : State, KeepsBounds t (t.recoverCold r) := fun t => by
    refine ⟨id, fun _ => ?_, id⟩
    unfold State.recoverCold
    rw [State.matrixSound_iff]
    dsimp only
    split
    · exact matrixClear_sound
    · exact rebuiltMatrix_sound _
  unfold State.finishScan
  refine (State.recoverSettings_keepsBounds _ _).after ((Quiet.ofStore (Store.queueGap_keeps _)).keepsBounds.after
    ((matched.trans (State.settleEpoch_keepsBounds _)).trans ?_))
  split
  · exact cold _
  · exact .refl _

theorem State.clearForStart_keepsBounds (s : State) : KeepsBounds s s.clearForStart := by
  refine ⟨fun h => ?_, id, id⟩
  obtain ⟨-, -, -, members, room⟩ := h
  exact ⟨Nat.zero_le _, Nat.zero_le _, Nat.zero_le _, members, room⟩

theorem State.overdueBurst_members (s : State) : s.overdueBurst.1.members.length ≤ s.builder.members.length := by
  unfold State.overdueBurst
  split
  · exact Nat.zero_le _
  · exact Nat.le_refl _

theorem State.startMeasuring_keepsBounds (s : State) (kind : RestartKind) : KeepsBounds s (s.startMeasuring kind) := by
  unfold State.startMeasuring
  refine (State.finish_quiet _).keepsBounds.after ((State.deliver_keepsBounds _ _).after ⟨fun h => ?_, id, id⟩)
  obtain ⟨history, marks, ring, members, room⟩ := h
  have fewer := s.overdueBurst_members
  refine ⟨history, marks, ring, fewer.trans members, fun h => fewer.trans (room ?_)⟩
  simpa [State.intervalRestart, State.setBoundary, State.openInterval, State.resumeContexts] using h

theorem State.recordRestart_keepsBounds (s : State) (kind : RestartKind) (r : ScanResult) :
    KeepsBounds s (s.recordRestart kind r) :=
  (s.handOver_quiet (.restart (s.restartRecord kind r))).keepsBounds.trans ⟨id, id, id⟩

theorem State.endScan_keepsBounds (s : State) (kind : RestartKind) : KeepsBounds s (s.endScan kind) := by
  unfold State.endScan
  exact (State.startMeasuring_keepsBounds _ _).after ((State.recordRestart_keepsBounds _ _ _).after
    ((s.finishScan_keepsBounds _ _).trans (State.clearForStart_keepsBounds _)))

theorem exec_supply_keepsBounds {i : Instr} {s t : State} (hi : ofTheSupply i = true) (h : exec i s = .next t) :
    KeepsBounds s t := by
  cases i <;> simp only [ofTheSupply, Bool.false_eq_true] at hi <;> injection h with h <;> subst h
  case supplyGoodFall =>
    split
    · exact .refl s
    · split
      · exact s.warn_keepsBounds
      · exact s.stopScan_quiet.keepsBounds.trans (State.warn_keepsBounds _)
      · exact ⟨id, id, id⟩
      · exact ⟨id, id, id⟩
  case storeHoldupDone => split; exacts [(State.enterRetain_keepsBounds _ _).after ⟨id, id, id⟩, .refl s]
  case supplyCollapse =>
    split
    · exact (s.tear_quiet.trans (State.dropAreaWrites_quiet _)).keepsBounds.trans (State.enterRetain_keepsBounds _ _)
    · exact .refl s
  case supplyGoodRise =>
    split
    · exact .refl s
    · split
      all_goals exact ⟨id, id, id⟩
  case steadinessWaitDone => split; exacts [s.beginRestart_keepsBounds _ _, .refl s]
  case powerUp =>
    have stopped := ((s.stopScan_quiet.trans (State.tear_quiet _)).trans (State.dropAreaWrites_quiet _)).trans
      (State.stopPorts_quiet _)
    exact (stopped.keepsBounds.trans (State.enterRetain_keepsBounds _ _)).trans ⟨id, id, id⟩
  case retentionLoss => split; exacts [⟨id, id, id⟩, .refl s]
  case resetAssert =>
    split
    · exact .refl s
    · split
      · exact s.holdByReset_keepsBounds
      · exact s.holdByReset_keepsBounds
      · exact ⟨id, id, id⟩
      · exact ⟨id, id, id⟩
  case resetRelease strap =>
    split
    · exact .refl s
    · refine KeepsBounds.trans (t := { s with monitor := { s.monitor with resetHigh := true } }) ⟨id, id, id⟩ ?_
      unfold State.releaseReset
      split
      · exact State.beginRestart_keepsBounds _ _ _
      · split
        · exact State.beginRestart_keepsBounds _ _ _
        · exact .refl _
  case restartScanEnd =>
    split
    · split
      · exact .refl s
      · exact s.endScan_keepsBounds _
    · exact .refl s

theorem State.countElapsed_keepClock_keepsBounds (s : State) : KeepsBounds s s.countElapsed.keepClock := by
  unfold State.keepClock State.countElapsed
  dsimp only
  split <;> split <;> exact ⟨id, id, id⟩

/-- Whatever the command, the buffers, the matrix and the commit queue stay within their sizes. -/
theorem exec_keepsBounds {i : Instr} {s t : State} (h : exec i s = .next t) : KeepsBounds s t := by
  by_cases link : ofTheLink i = true
  · exact exec_link_keepsBounds link h
  by_cases supply : ofTheSupply i = true
  · exact exec_supply_keepsBounds supply h
  by_cases quiet : worksQuietly i = true
  · exact (exec_quiet quiet h).keepsBounds
  cases sender : senderOf i with
  | some p => exact exec_request_keepsBounds sender h
  | none =>
    cases i <;> simp [ofTheLink, ofTheSupply, worksQuietly, senderOf] at link supply quiet sender
      <;> injection h with h <;> subst h
    case burstExpiry => split; exacts [s.expireBurst_keepsBounds, .refl s]
    case intervalBoundary => split; exacts [s.takeBoundary_keepsBounds, .refl s]
    case recordWriteComplete =>
      split
      · exact (s.commitHead_keepsBounds _ _).trans (State.afterCompletion_quiet _).keepsBounds
      · exact .refl s
    case epochWriteComplete =>
      split
      · exact (s.endReset_keepsBounds _ _).trans ((State.holdupWrite_quiet _).trans (State.finish_quiet _)).keepsBounds
      · exact .refl s
    case elapsedTick => split; exacts [.refl s, s.countElapsed_keepClock_keepsBounds]

/-- Settles O56. -/
theorem buffersAndMatrixStayBounded : Obligations.BuffersAndMatrixStayBounded := by
  intro i s t h
  have keeps := exec_keepsBounds h
  exact ⟨fun buffers matrix => ⟨keeps.buffers buffers, keeps.matrix matrix⟩, keeps.queue⟩

end Sys2Proof.Machine
end

section
/-! O1 and O42: a sample set's transfer reads back, and the state at first power is sound. -/

namespace Sys2Proof.Machine

open Sys2Proof

/-! ### A sample set's transfer (R1, R171) -/

theorem sampleFields_length (number : Byte) (x : SampleSet) : (sampleFields number x).length = 14 := by
  simp [sampleFields]

/-- Fourteen bytes with the inverse of their sum behind them are a good transfer (R1). -/
theorem transferGood_append_check {fields : List Byte} (h : fields.length = 14) :
    transferGood (fields ++ [~~~ byteSum fields]) = true := by
  have last : byteAt (fields ++ [~~~ byteSum fields]) 14 = ~~~ byteSum fields := by simp [byteAt, ← h]
  have first : (fields ++ [~~~ byteSum fields]).take 14 = fields := by simp [← h]
  simp [transferGood, last, first, h]

/-- A converter code laid out behind `before` reads back (R170, R171). -/
theorem code_readsBack (before after : List Byte) (code : BitVec 16) :
    BitVec.ofNat 16 (fieldAt (before ++ (leBytes 2 code.toNat ++ after)) before.length 2) = code := by
  have width : code.toNat % 256 ^ 2 = code.toNat := Nat.mod_eq_of_lt code.isLt
  rw [fieldAt_append, width, BitVec.ofNat_toNat, BitVec.setWidth_eq]

theorem byteAt_sampleBytes_first (number : Byte) (x : SampleSet) : byteAt (sampleBytes number x) 0 = number := rfl

theorem byteAt_sampleBytes_status (number : Byte) (x : SampleSet) : byteAt (sampleBytes number x) 13 = x.status := rfl

/-- The set that a transfer's bytes hold is the set laid out in them: each code stands behind the codes before it. -/
theorem sampleSetOf_sampleBytes (number : Byte) (x : SampleSet) : sampleSetOf (sampleBytes number x) = x := by
  have ua : BitVec.ofNat 16 (fieldAt (sampleBytes number x) 1 2) = x.ua := code_readsBack [number] _ _
  have ub : BitVec.ofNat 16 (fieldAt (sampleBytes number x) 3 2) = x.ub :=
    code_readsBack ([number] ++ leBytes 2 x.ua.toNat) _ _
  have uc : BitVec.ofNat 16 (fieldAt (sampleBytes number x) 5 2) = x.uc :=
    code_readsBack ([number] ++ leBytes 2 x.ua.toNat ++ leBytes 2 x.ub.toNat) _ _
  have ia : BitVec.ofNat 16 (fieldAt (sampleBytes number x) 7 2) = x.ia :=
    code_readsBack ([number] ++ leBytes 2 x.ua.toNat ++ leBytes 2 x.ub.toNat ++ leBytes 2 x.uc.toNat) _ _
  have ib : BitVec.ofNat 16 (fieldAt (sampleBytes number x) 9 2) = x.ib :=
    code_readsBack ([number] ++ leBytes 2 x.ua.toNat ++ leBytes 2 x.ub.toNat ++ leBytes 2 x.uc.toNat
      ++ leBytes 2 x.ia.toNat) _ _
  have ic : BitVec.ofNat 16 (fieldAt (sampleBytes number x) 11 2) = x.ic :=
    code_readsBack ([number] ++ leBytes 2 x.ua.toNat ++ leBytes 2 x.ub.toNat ++ leBytes 2 x.uc.toNat
      ++ leBytes 2 x.ia.toNat ++ leBytes 2 x.ib.toNat) _ _
  rw [sampleSetOf, ua, ub, uc, ia, ib, ic, byteAt_sampleBytes_status]

/-- Settles O1. -/
theorem sampleSetRoundTrip : Obligations.SampleSetRoundTrip := by
  intro number x
  rw [byteAt_sampleBytes_status]
  exact ⟨transferGood_append_check (sampleFields_length number x), byteAt_sampleBytes_first number x,
    sampleSetOf_sampleBytes number x, rfl, rfl, rfl, rfl, rfl, rfl⟩

/-! ### The first power (R130, R140) -/

theorem Settings.default_sound : Settings.default.sound := by
  refine ⟨fun i h1 h2 => ?_, by decide, by decide, by decide⟩
  interval_cases i <;> decide

theorem PortState.factory_replySound (p : Port) : PortState.factory.replySound p :=
  ⟨fun h => absurd h (by decide), fun _ => rfl, by decide⟩

/-- At first power the part is not in RUN, so its lines stand released as R169 says (R160). -/
theorem State.reset_lineSound (p : Port) : State.reset.lineSound p := by
  rw [State.lineSound_iff]
  cases p <;> rfl

/-- Settles O42. -/
theorem resetStateIsSound : Obligations.ResetStateIsSound := by
  refine ⟨rfl, rfl, rfl, fun _ => rfl, rfl, ?clock, ?buffers, matrixClear_sound, fun p => ?ports, Settings.default_sound⟩
  case clock => unfold State.clockSound; decide
  case buffers => unfold State.buffersSound; decide
  case ports =>
    refine ⟨State.reset_lineSound p, ?_⟩
    cases p <;> exact ⟨PortState.factory_replySound _, rfl⟩

end Sys2Proof.Machine
end

section
/-! O2, O3 and O4: what the receiver makes of transfers and ticks, and what handing on a set records. -/

namespace Sys2Proof.Machine

open Sys2Proof

/-! ### The receiver -/

theorem State.running_of_run {s : State} (h : s.monitor.state = .run) : s.running = true := by simp [State.running, h]

theorem Link.silenceDue_eq_false_iff {l : Link} : l.silenceDue = false ↔ l.state = .silent ∨ l.silence < 3 := by
  cases h : l.state <;> simp [Link.silenceDue, h]

/-- With no silent entry due, nothing comes before the transfer or the tick (log 3). -/
theorem State.settleSilence_same {s : State} (h : s.link.state = .silent ∨ s.link.silence < 3) : s.settleSilence = s := by
  rw [State.settleSilence, Link.silenceDue_eq_false_iff.2 h, if_neg Bool.false_ne_true]

theorem State.transfer_good {s : State} {bytes : List Byte} (good : transferGood bytes = true)
    (run : s.monitor.state = .run) (quiet : s.link.state = .silent ∨ s.link.silence < 3) :
    s.transfer bytes = s.goodSet (byteAt bytes 0) (sampleSetOf bytes) := by
  rw [State.transfer, if_pos (State.running_of_run run), State.settleSilence_same quiet, if_pos good]

theorem State.transfer_failed {s : State} {bytes : List Byte} (bad : transferGood bytes = false)
    (run : s.monitor.state = .run) (quiet : s.link.state = .silent ∨ s.link.silence < 3) :
    s.transfer bytes = s.failedSet := by
  rw [State.transfer, if_pos (State.running_of_run run), State.settleSilence_same quiet, bad, if_neg Bool.false_ne_true]

/-- Settles O2. -/
theorem goodTransferTaken : Obligations.GoodTransferTaken := by
  intro bytes s good run quiet
  have taken : exec (.goodTransfer bytes) s = .next (s.goodSet (byteAt bytes 0) (sampleSetOf bytes)) :=
    congrArg Host.Outcome.next (State.transfer_good good run quiet)
  dsimp only
  rw [taken, State.goodSet]
  by_cases rebase : s.link.state = .silent ∨ s.link.rebase = true
  · rw [if_pos rebase, if_pos (by simpa using rebase)]
    rfl
  · rw [if_neg rebase, if_neg (by simpa using rebase)]
    rfl

/-! ### Handing on a set -/

/-- With no boundary due, nothing falls before the set (log 3). -/
theorem State.settleBoundary_same {s : State} (loss : s.tracker.lossDue = false) (free : s.tracker.freeRunDue = false) :
    s.settleBoundary = s := by
  rw [State.settleBoundary, loss, free, if_neg Bool.false_ne_true, if_neg Bool.false_ne_true]

/-- R9: the last crossing direction is unknown or of the set's sign: the set is no crossing. -/
theorem Tracker.crossing_eq_none {t : Tracker} {x : Int} (h : t.lastDir = none ∨ t.lastDir = some (signOf x)) :
    t.crossing x = none := by
  unfold Tracker.crossing
  obtain h | h := h
  · rw [h]
  · rw [h]; exact if_pos rfl

theorem Tracker.crossing_eq_some {t : Tracker} {x : Int} {d : Direction} (h : t.lastDir = some d) (hd : d ≠ signOf x) :
    t.crossing x = some (signOf x) := by
  unfold Tracker.crossing
  rw [h]
  exact if_neg hd

/-- The crossing memory of a direction once the set that is examined has been handed on (R8). -/
theorem Tracker.oneMore_since (t : Tracker) (now : Stamp) (d : Direction) :
    (t.oneMore now).since d = (t.since d).map (· + 1) := by cases d <;> rfl

theorem Tracker.counts_iff (t : Tracker) (d : Direction) : t.counts d = true ↔ ∀ k, t.since d = some k → 128 ≤ k := by
  unfold Tracker.counts crossingSpacing
  cases h : t.since d <;> simp

/-- A set entered in the history, with its marks, and in the tracker's counts (R6, R8, R18). -/
def State.recordSet (s : State) (x : SampleSet) (substituted : Bool) : State :=
  { s with
    link := { s.link with
      marks := ({ substituted := substituted, clipped := clippedMark s.considered x } :: s.link.marks).take 256 },
    engine := { s.engine with history := (x :: s.engine.history).take 256 },
    tracker := s.tracker.oneMore s.now }

/-- A set is handed on: a boundary that is due falls, the set is recorded, and the tracker examines it. -/
theorem State.handOn_eq (s : State) (x : SampleSet) (substituted : Bool) :
    s.handOn x substituted =
      (s.settleBoundary.recordSet x substituted).examine (x.voltage s.settleBoundary.tracker.ref) := rfl

/-- The state with the sign of a reference value as the last crossing direction (R9). -/
def State.withSign (s : State) (x : Int) : State := { s with tracker := { s.tracker with lastDir := some (signOf x) } }

theorem State.examine_noCrossing {s : State} {x : Int} (h : s.tracker.lastDir = none ∨ s.tracker.lastDir = some (signOf x)) :
    s.examine x = s.withSign x := by
  rw [State.examine, Tracker.crossing_eq_none h]
  rfl

theorem State.examine_counted {s : State} {x : Int} {d : Direction} (h : s.tracker.lastDir = some d) (hd : d ≠ signOf x)
    (hc : s.tracker.counts (signOf x) = true) : s.examine x = (s.withSign x).countedCrossing (signOf x) := by
  rw [State.examine, Tracker.crossing_eq_some h hd]
  exact if_pos hc

theorem State.examine_tooNear {s : State} {x : Int} {d : Direction} (h : s.tracker.lastDir = some d) (hd : d ≠ signOf x)
    (hc : s.tracker.counts (signOf x) ≠ true) : s.examine x = s.withSign x := by
  rw [State.examine, Tracker.crossing_eq_some h hd]
  exact if_neg hc

/-- Settles O3. -/
theorem setHandedOnIsRecorded : Obligations.SetHandedOnIsRecorded := by
  intro s x substituted loss free sign clipped t held
  have handed : s.handOn x substituted = (s.recordSet x substituted).examine (x.voltage s.tracker.ref) := by
    rw [State.handOn_eq, State.settleBoundary_same loss free]
  have recorded : (s.recordSet x substituted).withSign (x.voltage s.tracker.ref) = t := rfl
  have since : (s.recordSet x substituted).tracker.since sign = held.map (· + 1) := Tracker.oneMore_since _ _ _
  have counts : (s.recordSet x substituted).tracker.counts sign = true ↔ ∀ k, held = some k → 128 ≤ k + 1 := by
    rw [Tracker.counts_iff, since]
    cases held <;> simp
  refine ⟨fun same => ?_, fun d last other => ⟨fun far => ?_, fun ⟨k, hk, near⟩ => ?_⟩⟩ <;> rw [handed]
  · exact (State.examine_noCrossing (s := s.recordSet x substituted) same).trans recorded
  · exact (State.examine_counted (s := s.recordSet x substituted) last other (counts.2 far)).trans
      (congrArg (State.countedCrossing · sign) recorded)
  · refine (State.examine_tooNear (s := s.recordSet x substituted) last other fun c => ?_).trans recorded
    exact absurd (counts.1 c k hk) (by omega)

/-! ### Substitutions -/

/-- `t` is `s` but for what a boundary or a crossing changes: the receiver and the history stand (R14, R19). -/
structure KeepsSets (s t : State) : Prop where
  link : t.link = s.link
  history : t.engine.history = s.engine.history

theorem KeepsSets.refl (s : State) : KeepsSets s s := ⟨rfl, rfl⟩

theorem KeepsSets.trans {s t u : State} (h : KeepsSets s t) (k : KeepsSets t u) : KeepsSets s u :=
  ⟨k.link.trans h.link, k.history.trans h.history⟩

/-- `KeepsSets.trans` with its steps named from the last. -/
theorem KeepsSets.after {s t u : State} (k : KeepsSets t u) (h : KeepsSets s t) : KeepsSets s u := h.trans k

@[simp] theorem State.takeWindow_link (s : State) (v : ValueSet) : (s.takeWindow v).link = s.link := by
  unfold State.takeWindow
  split
  · unfold State.validWindow
    simp
  · unfold State.invalidWindow
    dsimp only
    split <;> rfl

theorem State.placeBoundary_keepsSets (s : State) (n : Nat) : KeepsSets s (s.placeBoundary n) := by
  unfold State.placeBoundary
  exact ⟨by simp, by simp⟩

theorem State.loseReference_keepsSets (s : State) : KeepsSets s s.loseReference := by
  unfold State.loseReference
  exact (State.placeBoundary_keepsSets _ _).after ⟨rfl, rfl⟩

theorem State.settleBoundary_keepsSets (s : State) : KeepsSets s s.settleBoundary := by
  unfold State.settleBoundary
  split
  · exact s.loseReference_keepsSets
  · split
    · exact s.placeBoundary_keepsSets _
    · exact .refl s

theorem State.countedCrossing_keepsSets (s : State) (d : Direction) : KeepsSets s (s.countedCrossing d) := by
  unfold State.countedCrossing
  dsimp only
  split
  · exact (State.placeBoundary_keepsSets _ _).after ⟨rfl, rfl⟩
  · split
    · exact (State.placeBoundary_keepsSets _ _).after ⟨rfl, rfl⟩
    · exact ⟨rfl, rfl⟩

theorem State.examine_keepsSets (s : State) (x : Int) : KeepsSets s (s.examine x) := by
  unfold State.examine
  dsimp only
  split
  · exact ⟨rfl, rfl⟩
  · split
    · exact (State.countedCrossing_keepsSets _ _).after ⟨rfl, rfl⟩
    · exact ⟨rfl, rfl⟩

/-- R6, R18: whatever boundary falls with it, a set handed on is the newest of the history, with its mark. -/
theorem State.handOn_sets (s : State) (x : SampleSet) (substituted : Bool) : ∃ clipped,
    (s.handOn x substituted).link =
        { s.link with marks := ({ substituted := substituted, clipped := clipped } :: s.link.marks).take 256 }
      ∧ (s.handOn x substituted).engine.history = (x :: s.engine.history).take 256 := by
  have before := s.settleBoundary_keepsSets
  have after := (s.settleBoundary.recordSet x substituted).examine_keepsSets (x.voltage s.settleBoundary.tracker.ref)
  refine ⟨clippedMark s.settleBoundary.considered x, ?_, ?_⟩
  · rw [State.handOn_eq, after.link, ← before.link]
    rfl
  · rw [State.handOn_eq, after.history, ← before.history]
    rfl

/-- R6: a substitution raises L by one and hands on the last good set, marked. -/
theorem State.substitute_sets (s : State) : ∃ clipped,
    s.substitute.link = { s.link with
        lastNumber := s.link.lastNumber + 1,
        marks := ({ substituted := true, clipped := clipped } :: s.link.marks).take 256 }
      ∧ s.substitute.engine.history = (s.link.lastGood :: s.engine.history).take 256 := by
  obtain ⟨clipped, link, history⟩ :=
    State.handOn_sets { s with link := { s.link with lastNumber := s.link.lastNumber + 1 } } s.link.lastGood true
  exact ⟨clipped, link, history⟩

/-- R5: the entry into SILENT raises L by 3 and puts three marked copies of the last good set at the head of the history. -/
theorem State.enterSilent_sets (s : State) : ∃ first second third,
    s.enterSilent.link = { s.link with
        state := .silent, lastNumber := s.link.lastNumber + 3,
        marks := (⟨true, third⟩ :: (⟨true, second⟩ :: (⟨true, first⟩ :: s.link.marks).take 256).take 256).take 256 }
      ∧ s.enterSilent.engine.history.take 3 = List.replicate 3 s.link.lastGood := by
  let silent : State := { s with link := { s.link with state := .silent } }
  obtain ⟨first, link₁, history₁⟩ := silent.substitute_sets
  obtain ⟨second, link₂, history₂⟩ := silent.substitute.substitute_sets
  obtain ⟨third, link₃, history₃⟩ := silent.substitute.substitute.substitute_sets
  have entered : s.enterSilent = silent.substitute.substitute.substitute := rfl
  refine ⟨first, second, third, ?_, ?_⟩
  · rw [entered, link₃, link₂, link₁]
    have three : s.link.lastNumber + 1 + 1 + 1 = s.link.lastNumber + 3 := by bv_omega
    simp only [silent, three]
  · rw [entered, history₃, link₂, history₂, link₁, history₁]
    rfl

theorem Link.silenceDue_of {l : Link} (running : l.state = .running) (due : 3 ≤ l.silence) : l.silenceDue = true := by
  simp [Link.silenceDue, running, due]

/-- Settles O4. -/
theorem substitutionsStandForMissingSets : Obligations.SubstitutionsStandForMissingSets := by
  intro s run copy
  have go := State.running_of_run run
  refine ⟨fun bytes bad running quiet => ?failed, fun bytes bad silent => ?ignored, fun running quiet => ?counted,
    fun silent => ?copied, fun running due => ?entered⟩
  case failed =>
    refine congrArg Host.Outcome.next ((State.transfer_failed bad run (.inr quiet)).trans ?_)
    rw [State.failedSet, if_pos running]
    rfl
  case ignored =>
    refine congrArg Host.Outcome.next ((State.transfer_failed bad run (.inl silent)).trans ?_)
    rw [State.failedSet, silent]
    rfl
  case counted =>
    refine congrArg Host.Outcome.next ?_
    rw [State.tick, if_pos go, State.settleSilence_same (.inr quiet)]
    simp only [running]
  case copied =>
    refine congrArg Host.Outcome.next ?_
    rw [State.tick, if_pos go, State.settleSilence_same (.inl silent)]
    simp only [silent]
    rfl
  case entered =>
    obtain ⟨first, second, third, link, history⟩ := s.enterSilent_sets
    refine ⟨s.enterSilent, congrArg Host.Outcome.next ?_, ?_⟩
    · rw [go, Link.silenceDue_of running due]
      rfl
    · rw [link]
      exact ⟨rfl, rfl, rfl, rfl, rfl, history, rfl⟩

end Sys2Proof.Machine
end

section
/-! O9: every value set follows its formulas and keeps to its ranges (R7, R20 to R27). -/

namespace Sys2Proof.Machine

open Sys2Proof

/-! ### The values of one phase -/

/-- Every phase of a value set has its values from the window (R20 to R25). -/
theorem State.valueSet_phase (s : State) (n : Nat) (f : Phase) :
    (s.valueSet n).phases.get f =
      phaseValues s.bank.inForce n (s.engine.history.take n) (s.considered.has f) f := by cases f <;> rfl

/-- The products of the codes of two channels over a window. -/
theorem window_products (window : List SampleSet) (volt amp : SampleSet → Int) :
    window.map (fun x => volt x * amp x) = List.zipWith (· * ·) (window.map volt) (window.map amp) := by
  rw [List.zipWith_map, List.zipWith_self]

theorem clamp_mem {lo hi x : Int} (h : lo ≤ hi) : lo ≤ clamp lo hi x ∧ clamp lo hi x ≤ hi := by
  unfold clamp
  omega

theorem powerValue_mem (pc : Int) (d : Nat) : -30000 ≤ powerValue pc d ∧ powerValue pc d ≤ 30000 :=
  clamp_mem (by decide)

theorem apparentValue_le {u i : Nat} (hu : u ≤ 30000) (hi : i ≤ 60000) : apparentValue u i ≤ 180000 := by
  have : u * i ≤ 30000 * 60000 := Nat.mul_le_mul hu hi
  unfold apparentValue
  omega

/-- The values of a phase lie in their ranges (R21, R22, R24, R25). -/
structure PhaseValues.InRange (v : PhaseValues) : Prop where
  u : v.u ≤ 30000
  i : v.i ≤ 60000
  p_low : -30000 ≤ v.p
  p_high : v.p ≤ 30000
  s : v.s ≤ 180000

theorem phaseValues_inRange (set : Settings) (n : Nat) (window : List SampleSet) (considered : Bool) (f : Phase) :
    (phaseValues set n window considered f).InRange where
  u := Nat.min_le_left _ _
  i := Nat.min_le_left _ _
  p_low := (powerValue_mem _ _).1
  p_high := (powerValue_mem _ _).2
  s := apparentValue_le (Nat.min_le_left _ _) (Nat.min_le_left _ _)

theorem State.valueSet_inRange (s : State) (n : Nat) (f : Phase) : ((s.valueSet n).phases.get f).InRange :=
  s.valueSet_phase n f ▸ phaseValues_inRange _ _ _ _ _

/-! ### The totals -/

theorem Settings.phaseArrangement_three {set : Settings} (h : set.arrangement ≠ 1) : set.phaseArrangement = .three :=
  if_neg h

theorem Settings.phaseArrangement_single {set : Settings} (h : set.arrangement = 1) : set.phaseArrangement = .single :=
  if_pos h

/-- Phase A is always considered, and the others under THREE (00_scope.md). -/
theorem State.considered_has (s : State) (f : Phase) :
    s.considered.has f = true ↔ f = .a ∨ s.bank.inForce.arrangement ≠ 1 := by
  unfold State.considered State.arrangement
  by_cases h : s.bank.inForce.arrangement = 1
  · rw [Settings.phaseArrangement_single h]
    cases f <;> simp [Arrangement.considered, PhaseSet.has, h]
  · rw [Settings.phaseArrangement_three h]
    cases f <;> simp [Arrangement.considered, PhaseSet.has, h]

theorem State.valueSet_considered (s : State) (n : Nat) (f : Phase) :
    ((s.valueSet n).phases.get f).considered = s.considered.has f := by rw [s.valueSet_phase]; rfl

theorem State.valueSet_totals_three {s : State} (n : Nat) (h : s.bank.inForce.arrangement ≠ 1) :
    let v := s.valueSet n
    v.totalP = v.phases.a.p + v.phases.b.p + v.phases.c.p ∧ v.totalS = v.phases.a.s + v.phases.b.s + v.phases.c.s
      ∧ v.arrangement = .three := by
  intro v
  have considered : ∀ f, (v.phases.get f).considered = true := fun f =>
    (s.valueSet_considered n f).trans ((s.considered_has f).2 (.inr h))
  have ha := considered .a
  have hb := considered .b
  have hc := considered .c
  refine ⟨?_, ?_, Settings.phaseArrangement_three h⟩
  · show totalPower v.phases = _
    simp_all [totalPower, ThreePhase.get]
  · show totalApparent v.phases = _
    simp_all [totalApparent, ThreePhase.get]

theorem State.valueSet_totals_single {s : State} (n : Nat) (h : s.bank.inForce.arrangement = 1) :
    let v := s.valueSet n
    v.totalP = v.phases.a.p ∧ v.totalS = v.phases.a.s ∧ v.arrangement = .single := by
  intro v
  have considered : ∀ f, (v.phases.get f).considered = decide (f = .a) := fun f => by
    rw [s.valueSet_considered n f, Bool.eq_iff_iff, s.considered_has f]
    simp [h]
  have ha := considered .a
  have hb := considered .b
  have hc := considered .c
  refine ⟨?_, ?_, Settings.phaseArrangement_single h⟩
  · show totalPower v.phases = _
    simp_all [totalPower, ThreePhase.get]
  · show totalApparent v.phases = _
    simp_all [totalApparent, ThreePhase.get]

/-- The totals lie in their ranges (R26). -/
theorem State.valueSet_totals_inRange (s : State) (n : Nat) :
    -90000 ≤ (s.valueSet n).totalP ∧ (s.valueSet n).totalP ≤ 90000 ∧ (s.valueSet n).totalS ≤ 540000 := by
  obtain ⟨-, -, la, ha, sa⟩ : (s.valueSet n).phases.a.InRange := s.valueSet_inRange n .a
  obtain ⟨-, -, lb, hb, sb⟩ : (s.valueSet n).phases.b.InRange := s.valueSet_inRange n .b
  obtain ⟨-, -, lc, hc, sc⟩ : (s.valueSet n).phases.c.InRange := s.valueSet_inRange n .c
  by_cases h : s.bank.inForce.arrangement = 1
  · obtain ⟨p, q, -⟩ := s.valueSet_totals_single n h
    omega
  · obtain ⟨p, q, -⟩ := s.valueSet_totals_three n h
    omega

/-! ### The window's marks -/

theorem State.valueSet_substitutions (s : State) (n : Nat) :
    (s.valueSet n).substitutions = ((s.link.marks.take n).filter fun m => m.substituted).length :=
  List.countP_eq_length_filter

theorem State.valueSet_valid_iff (s : State) (n : Nat) :
    (s.valueSet n).valid = true ↔ ((s.link.marks.take n).filter fun m => m.substituted).length ≤ 2 := by
  rw [← s.valueSet_substitutions n]
  exact decide_eq_true_iff

theorem State.valueSet_clipped_iff (s : State) (n : Nat) :
    (s.valueSet n).clipped = true ↔ ∃ m ∈ s.link.marks.take n, m.clipped = true := List.any_eq_true

/-- Settles O9. -/
theorem valueSetFollowsItsFormulas : Obligations.ValueSetFollowsItsFormulas := by
  intro s n v set three window marks volts amps
  obtain ⟨low, high, apparent⟩ := s.valueSet_totals_inRange n
  refine ⟨fun f => ?_, fun h => State.valueSet_totals_three n h,
    fun h => State.valueSet_totals_single n (not_not.1 h), low, high, apparent, rfl, rfl, rfl, rfl, rfl,
    s.valueSet_substitutions n, s.valueSet_valid_iff n, s.valueSet_clipped_iff n⟩
  obtain ⟨hu, hi, pl, ph, hs⟩ := s.valueSet_inRange n f
  have codes : volts f = window.map (fun x => x.voltage f) ∧ amps f = window.map (fun x => x.current f) := by
    cases f <;> exact ⟨rfl, rfl⟩
  have considered : ((s.valueSet n).phases.get f).considered = true ↔ f = .a ∨ three := by
    rw [s.valueSet_considered n f, s.considered_has f]
  refine ⟨?_, ?_, ?_, ?_, considered, hu, hi, pl, ph, hs⟩
  all_goals rw [s.valueSet_phase n f]
  · rw [codes.1]; rfl
  · rw [codes.2]; rfl
  · rw [codes.1, codes.2, ← window_products]; rfl
  · rfl

end Sys2Proof.Machine
end

section
/-! O5, O6 and O12: boundaries, the tracker's review of its reference, counted crossings, and the interval's account of a
window. -/

namespace Sys2Proof.Machine

open Sys2Proof

/-! ### The tracker's review (R8, R11, R13) -/

/-- The tracker with a window's U½ values noted (R8). -/
def Tracker.seen (t : Tracker) (v : ValueSet) : Tracker := { t with lastU := .build v.u }

theorem ThreePhase.build_get {α : Type} (g : Phase → α) (f : Phase) : (ThreePhase.build g).get f = g f := by
  cases f <;> rfl

theorem eligible_iff (c : PhaseSet) (u : ThreePhase Nat) (f : Phase) :
    eligible c u f = true ↔ c.has f = true ∧ 2000 ≤ u.get f := by
  unfold eligible eligibleLevel
  rw [Bool.and_eq_true, decide_eq_true_iff]

/-- A phase is eligible after a window by the window's U½. -/
theorem Tracker.seen_eligible_iff (t : Tracker) (c : PhaseSet) (v : ValueSet) (f : Phase) :
    eligible c (t.seen v).lastU f = true ↔ c.has f = true ∧ 2000 ≤ v.u f := by
  rw [eligible_iff, Tracker.seen, ThreePhase.build_get]

/-- A move outside TRACKING clears the cycle mark and the low count, and forgets the crossings of a reference it leaves. -/
theorem Tracker.moveTo_eq (t : Tracker) (state : TrackState) (ref : Phase) :
    t.moveTo state ref = { t with
      state := state, ref := ref, cycleMark := false, lowCount := 0,
      sincePos := if ref = t.ref then t.sincePos else none, sinceNeg := if ref = t.ref then t.sinceNeg else none,
      lastDir := if ref = t.ref then t.lastDir else none } := by
  unfold Tracker.moveTo
  split
  · rename_i h
    subst h
    simp
  · rfl

/-- The phase that is found is eligible, and no eligible phase has a lower letter. -/
theorem lowestEligible_some {c : PhaseSet} {u : ThreePhase Nat} {f : Phase} (h : lowestEligible c u = some f) :
    eligible c u f = true ∧ ∀ g, eligible c u g = true → f.code ≤ g.code := by
  have found := List.find?_some h
  refine ⟨found, fun g hg => ?_⟩
  cases ha : eligible c u .a
  · cases hb : eligible c u .b
    · cases g <;> cases f <;> simp_all [Phase.code]
    · have : f = .b := by simpa [lowestEligible, List.find?_cons, ha, hb] using h.symm
      subst this
      cases g <;> simp_all [Phase.code]
  · have : f = .a := by simpa [lowestEligible, List.find?_cons, ha] using h.symm
    subst this
    exact Nat.zero_le _

theorem lowestEligible_none {c : PhaseSet} {u : ThreePhase Nat} (h : lowestEligible c u = none) (f : Phase) :
    eligible c u f ≠ true :=
  List.find?_eq_none.1 h f (by cases f <;> decide)

/-- R11, R13: the move off a reference: FREE_RUN on A when no phase is eligible, and otherwise SEARCH on the lowest-lettered
eligible phase. -/
theorem Tracker.leaveReference_cases (t : Tracker) (c : PhaseSet) :
    ((∀ f, eligible c t.lastU f ≠ true) ∧ t.leaveReference c = t.moveTo .freeRun .a)
      ∨ ∃ f, eligible c t.lastU f = true ∧ (∀ g, eligible c t.lastU g = true → f.code ≤ g.code)
        ∧ t.leaveReference c = t.moveTo .search f := by
  unfold Tracker.leaveReference
  split
  · rename_i f h
    obtain ⟨found, lowest⟩ := lowestEligible_some h
    exact .inr ⟨f, found, lowest, rfl⟩
  · rename_i h
    exact .inl ⟨lowestEligible_none h, rfl⟩

theorem Tracker.review_tracking {t : Tracker} (h : t.state = .tracking) (c : PhaseSet) (v : ValueSet) :
    t.review c v =
      if v.u t.ref < 2000 then
        if 2 ≤ t.lowCount + 1 then (t.seen v).leaveReference c else { t.seen v with lowCount := t.lowCount + 1 }
      else { t.seen v with lowCount := 0 } := by
  have level : (t.seen v).lastU.get t.ref = v.u t.ref := ThreePhase.build_get _ _
  rw [← level]
  exact if_pos h

theorem Tracker.review_elsewhere {t : Tracker} (h : t.state ≠ .tracking) (c : PhaseSet) (v : ValueSet) :
    t.review c v = if eligible c (t.seen v).lastU t.ref then t.seen v else (t.seen v).leaveReference c := if_neg h

/-- A tracker that is not TRACKING is not TRACKING after its review, whose cycle mark it keeps or clears. -/
theorem Tracker.leaveReference_marks (t : Tracker) (c : PhaseSet) :
    (t.leaveReference c).state ≠ .tracking ∧ (t.leaveReference c).cycleMark = false
      ∧ (t.leaveReference c).sinceBoundary = t.sinceBoundary ∧ (t.leaveReference c).firstBoundary = t.firstBoundary := by
  obtain ⟨-, e⟩ | ⟨f, -, -, e⟩ := t.leaveReference_cases c
  all_goals
    rw [e, Tracker.moveTo_eq]
    exact ⟨by simp, rfl, rfl, rfl⟩

/-- What the review makes of the marks: it leaves the reference, or the state and the marks stand. -/
theorem Tracker.review_marks (t : Tracker) (c : PhaseSet) (v : ValueSet) :
    (t.review c v).sinceBoundary = t.sinceBoundary ∧ (t.review c v).firstBoundary = t.firstBoundary
      ∧ (((t.review c v).state = t.state ∧ (t.review c v).cycleMark = t.cycleMark)
        ∨ ((t.review c v).state ≠ .tracking ∧ (t.review c v).cycleMark = false)) := by
  obtain ⟨state, mark, since, first⟩ := (t.seen v).leaveReference_marks c
  by_cases h : t.state = .tracking
  · rw [Tracker.review_tracking h]
    split
    · split
      · exact ⟨since, first, .inr ⟨state, mark⟩⟩
      · exact ⟨rfl, rfl, .inl ⟨rfl, rfl⟩⟩
    · exact ⟨rfl, rfl, .inl ⟨rfl, rfl⟩⟩
  · rw [Tracker.review_elsewhere h]
    split
    · exact ⟨rfl, rfl, .inl ⟨rfl, rfl⟩⟩
    · exact ⟨since, first, .inr ⟨state, mark⟩⟩

/-! ### A boundary (R14, R19) -/

/-- The tracker after a boundary is the one reviewed by the value set that the boundary issues. -/
theorem State.placeBoundary_reviewed (s : State) (n : Nat) :
    (s.placeBoundary n).tracker =
      ({ s.tracker with sinceBoundary := 0, firstBoundary := false }).review s.considered (s.valueSet n) :=
  s.placeBoundary_tracker n

theorem State.placeBoundary_issues (s : State) (n : Nat) : (s.placeBoundary n).engine.latest = some (s.valueSet n) :=
  s.placeBoundary_latest n

/-- A boundary restarts the count and leaves the tracker as it was, or outside TRACKING with the cycle mark clear. -/
theorem State.placeBoundary_marks (s : State) (n : Nat) :
    (s.placeBoundary n).tracker.sinceBoundary = 0 ∧ (s.placeBoundary n).tracker.firstBoundary = false
      ∧ (((s.placeBoundary n).tracker.state = s.tracker.state ∧ (s.placeBoundary n).tracker.cycleMark = s.tracker.cycleMark)
        ∨ ((s.placeBoundary n).tracker.state ≠ .tracking ∧ (s.placeBoundary n).tracker.cycleMark = false)) := by
  rw [State.placeBoundary_reviewed]
  exact Tracker.review_marks { s.tracker with sinceBoundary := 0, firstBoundary := false } _ _

/-- What a boundary leaves unchanged: the receiver, the history, the settings, the monitor, the ports, the array, newest
committed and the waiting commands. -/
def BoundaryKeeps (s t : State) : Prop :=
  t.link = s.link ∧ t.engine.history = s.engine.history ∧ t.bank = s.bank ∧ t.monitor = s.monitor
    ∧ t.operator = s.operator ∧ t.consumer = s.consumer ∧ t.store.array = s.store.array
    ∧ t.store.newest = s.store.newest ∧ t.pending = s.pending

theorem State.placeBoundary_keeps (s : State) (n : Nat) : BoundaryKeeps s (s.placeBoundary n) := by
  obtain ⟨link, history⟩ := s.placeBoundary_keepsSets n
  obtain ⟨bank, monitor, operator, consumer, pending, store, -⟩ := s.placeBoundary_measured n
  exact ⟨link, history, bank, monitor, operator, consumer, by rw [store.rest], by rw [store.rest], pending⟩

theorem Tracker.lossDue_of {t : Tracker} (tracking : t.state = .tracking) (far : 256 ≤ t.sinceBoundary) :
    t.lossDue = true := by simp [Tracker.lossDue, tracking, far]

theorem Tracker.freeRunDue_of {t : Tracker} (elsewhere : t.state ≠ .tracking)
    (far : (if t.firstBoundary then t.nominal else t.nominal / 2) ≤ t.sinceBoundary) : t.freeRunDue = true := by
  simp [Tracker.freeRunDue, Tracker.freeRunLength, elsewhere, far]

/-- Settles O5. -/
theorem boundariesWithoutCrossings : Obligations.BoundariesWithoutCrossings := by
  intro s run kept
  have go := State.running_of_run run
  refine ⟨fun tracking far => ?loss, fun elsewhere far => ?freeRun⟩
  case loss =>
    let lost : State := { s with tracker := { s.tracker with state := .freeRun, cycleMark := false } }
    have done : exec .referenceLoss s = .next (lost.placeBoundary s.tracker.nominal) := by
      refine congrArg Host.Outcome.next ?_
      rw [go, Tracker.lossDue_of tracking far]
      rfl
    obtain ⟨since, first, marks⟩ := lost.placeBoundary_marks s.tracker.nominal
    have outside : (lost.placeBoundary s.tracker.nominal).tracker.state ≠ .tracking := by
      obtain ⟨state, -⟩ | ⟨state, -⟩ := marks
      · rw [state]; simp [lost]
      · exact state
    have clear : (lost.placeBoundary s.tracker.nominal).tracker.cycleMark = false := by
      obtain ⟨-, mark⟩ | ⟨-, mark⟩ := marks
      · exact mark
      · exact mark
    exact ⟨_, _, done, lost.placeBoundary_issues _, rfl, rfl, rfl, rfl, outside, clear, since, first,
      lost.placeBoundary_keeps _⟩
  case freeRun =>
    have done : exec .freeRunBoundary s = .next (s.placeBoundary s.tracker.nominal) := by
      refine congrArg Host.Outcome.next ?_
      rw [go, Tracker.freeRunDue_of elsewhere far]
      rfl
    obtain ⟨since, first, marks⟩ := s.placeBoundary_marks s.tracker.nominal
    have outside : (s.placeBoundary s.tracker.nominal).tracker.state ≠ .tracking := by
      obtain ⟨state, -⟩ | ⟨state, -⟩ := marks
      · rwa [state]
      · exact state
    exact ⟨_, _, done, s.placeBoundary_issues _, rfl, rfl, rfl, rfl, outside, since, first, s.placeBoundary_keeps _⟩

/-! ### The interval's account of a window (R90) -/

theorem Aggregator.isOpen_of {a : Aggregator} {i : Interval} (hi : a.interval = some i) (hf : a.freeze = none) :
    a.isOpen = true := by simp [Aggregator.isOpen, hi, hf]

/-- An OPEN aggregator accounts for a window in its interval. -/
theorem Aggregator.account_open {a : Aggregator} {i : Interval} (hi : a.interval = some i) (hf : a.freeze = none)
    (v : ValueSet) (event gap : Bool) : a.account v event gap =
      { a with interval := some (i.account v event gap a.skip), skip := a.skip && ! v.valid } := by
  rw [Aggregator.account, if_pos (Aggregator.isOpen_of hi hf), hi]
  rfl

theorem Aggregator.account_notOpen {a : Aggregator} (h : a.interval = none ∨ a.freeze.isSome = true) (v : ValueSet)
    (event gap : Bool) : a.account v event gap = a := by
  refine if_neg ?_
  obtain h | h := h
  · simp [Aggregator.isOpen, h]
  · simp [Aggregator.isOpen, Option.isNone_eq_false_iff.2 h]

/-- An invalid or skipped window adds nothing to the sums. -/
theorem Interval.account_sums_held {v : ValueSet} {skip : Bool} (h : v.valid = false ∨ skip = true) (i : Interval)
    (event gap : Bool) : (i.account v event gap skip).sums = i.sums :=
  if_neg (by obtain h | h := h <;> simp [h])

theorem Interval.account_sums_added {v : ValueSet} {skip : Bool} (valid : v.valid = true) (taken : skip = false)
    (i : Interval) (event gap : Bool) :
    (i.account v event gap skip).sums = i.sums.add i.arrangement.considered v := if_pos ⟨valid, taken⟩

/-- A window adds to a considered phase its squared U½ and its extremes; the first summed window sets both extremes. -/
theorem Sums.add_phase_considered {c : PhaseSet} {f : Phase} (h : c.has f = true) (t : Sums) (v : ValueSet) :
    (t.add c v).phases.get f =
      { squares := (t.phases.get f).squares + v.u f * v.u f,
        minimum := if t.n = 0 then v.u f else min (t.phases.get f).minimum (v.u f),
        maximum := if t.n = 0 then v.u f else max (t.phases.get f).maximum (v.u f) } := by
  have phase : (t.add c v).phases.get f = (t.phases.get f).add (t.n == 0) (v.u f) :=
    (ThreePhase.build_get _ f).trans (if_pos h)
  rw [phase, PhaseSums.add]
  simp only [beq_iff_eq]

theorem Sums.add_phase_other {c : PhaseSet} {f : Phase} (h : c.has f = false) (t : Sums) (v : ValueSet) :
    (t.add c v).phases.get f = t.phases.get f :=
  (ThreePhase.build_get _ f).trans (if_neg (by rw [h]; exact Bool.false_ne_true))

/-- The tracker `u` is `t` after a window that makes it leave its reference: where no phase fits, FREE_RUN on A, and otherwise
SEARCH on the lowest-lettered phase that fits; the crossings of a reference it leaves are forgotten (R9, R11, R13). -/
def Tracker.Leaves (t u : Tracker) (v : ValueSet) (fits : Phase → Prop) : Prop :=
  (¬ (∃ f, fits f) → u.state = .freeRun ∧ u.ref = .a)
    ∧ ((∃ f, fits f) → u.state = .search ∧ fits u.ref ∧ ∀ f, fits f → u.ref.code ≤ f.code)
    ∧ u = { t.seen v with
        state := u.state, ref := u.ref, cycleMark := false, lowCount := 0,
        sincePos := if u.ref = t.ref then t.sincePos else none, sinceNeg := if u.ref = t.ref then t.sinceNeg else none,
        lastDir := if u.ref = t.ref then t.lastDir else none }

theorem Tracker.leaveReference_leaves (t : Tracker) (c : PhaseSet) (v : ValueSet) :
    t.Leaves ((t.seen v).leaveReference c) v (fun f => c.has f = true ∧ 2000 ≤ v.u f) := by
  have fits := t.seen_eligible_iff c v
  obtain ⟨unfit, e⟩ | ⟨f, found, lowest, e⟩ := (t.seen v).leaveReference_cases c
  all_goals rw [e, Tracker.moveTo_eq]
  · exact ⟨fun _ => ⟨rfl, rfl⟩, fun ⟨g, hg⟩ => absurd ((fits g).2 hg) (unfit g), rfl⟩
  · exact ⟨fun h => absurd ⟨f, (fits f).1 found⟩ h,
      fun _ => ⟨rfl, (fits f).1 found, fun g hg => lowest g ((fits g).2 hg)⟩, rfl⟩

theorem State.placeBoundary_takeWindow {s : State} {n : Nat}
    (h : ∀ e, s.builder.timer = some e → s.tracker.setElapsed ≤ e) :
    s.placeBoundary n =
      State.takeWindow { s with
        engine := { s.engine with latest := some (s.valueSet n) },
        tracker := ({ s.tracker with sinceBoundary := 0, firstBoundary := false }).review s.considered (s.valueSet n) }
      (s.valueSet n) := by
  have due : s.builder.overdueAt s.tracker.setElapsed = false := by
    unfold Builder.overdueAt
    split
    · rfl
    · rename_i e he
      exact decide_eq_false (Nat.not_lt.2 (h e he))
  unfold State.placeBoundary
  exact congrArg (State.takeWindow · (s.valueSet n)) (State.settleBurst_same (.inr due))

/-- Settles O12. -/
theorem windowsReviewReferenceAndAreSummed : Obligations.WindowsReviewReferenceAndAreSummed := by
  refine ⟨fun t c v => ?review, fun s n => ⟨s.placeBoundary_issues n, s.placeBoundary_reviewed n,
    State.placeBoundary_takeWindow⟩, fun s v => ⟨fun i hi hf => ?taken, fun h => ?notTaken⟩⟩
  case review =>
    have leaves := t.leaveReference_leaves c v
    have fits := t.seen_eligible_iff c v
    refine ⟨fun tracking high => ?_, fun tracking low first => ?_, fun tracking low second => ?_,
      fun elsewhere fit => ?_, fun elsewhere unfit => ?_⟩
    · exact (Tracker.review_tracking tracking c v).trans (if_neg high)
    · rw [Tracker.review_tracking tracking, if_pos low, if_neg (by omega), first]
      rfl
    · rw [Tracker.review_tracking tracking, if_pos low, if_pos (by omega)]
      exact leaves
    · exact (Tracker.review_elsewhere elsewhere c v).trans (if_pos ((fits _).2 fit))
    · rw [Tracker.review_elsewhere elsewhere, if_neg fun h => unfit ((fits _).1 h)]
      exact leaves
  case notTaken =>
    rw [State.takeWindow_aggregator]
    exact Aggregator.account_notOpen h _ _ _
  case taken =>
    refine ⟨_, (State.takeWindow_aggregator s v).trans (Aggregator.account_open hi hf _ _ _), ?_, ?_, ?_⟩
    · simp only [Interval.account, State.eventOpen, State.gapOpen, Bool.or_assoc]
    · exact fun held => Interval.account_sums_held held _ _ _
    · intro valid taken
      rw [Interval.account_sums_added valid taken]
      exact ⟨rfl, rfl, rfl, rfl,
        fun f => ⟨fun h => Sums.add_phase_other h _ _, fun h => Sums.add_phase_considered h _ _⟩⟩

/-! ### Counted crossings (R9, R10, R12, R15, R91) -/

/-- A counted crossing in TRACKING: the boundary of its span falls after the cycle it may complete is counted. -/
theorem State.countedCrossing_tracking {s : State} (h : s.tracker.state = .tracking) (d : Direction) :
    s.countedCrossing d = State.placeBoundary { s with
      tracker := { s.tracker.countCrossing d with cycleMark := if d = .positive then true else s.tracker.cycleMark },
      aggregator := ((s.tracker.cycleEnding d).map s.aggregator.cycle).getD s.aggregator } (s.tracker.spanLength d) := by
  unfold State.countedCrossing
  dsimp only
  rw [if_pos h]
  cases d <;> cases s.tracker.cycleEnding _ <;> rfl

/-- A counted crossing that returns the tracker to TRACKING. -/
theorem State.countedCrossing_returns {s : State} {d : Direction} (h : s.tracker.state ≠ .tracking)
    (hd : d = .positive ∧ 2000 ≤ s.tracker.lastU.get s.tracker.ref) :
    s.countedCrossing d = State.placeBoundary { s with
      tracker := { s.tracker.countCrossing d with state := .tracking, lowCount := 0, cycleMark := true } }
      (s.tracker.spanLength d) := by
  obtain ⟨rfl, level⟩ := hd
  unfold State.countedCrossing
  dsimp only
  rw [if_neg h]
  exact if_pos ⟨rfl, level⟩

/-- A counted crossing outside TRACKING that does not return the tracker to it changes the crossing memory alone. -/
theorem State.countedCrossing_remembered {s : State} {d : Direction} (h : s.tracker.state ≠ .tracking)
    (hd : ¬ (d = .positive ∧ 2000 ≤ s.tracker.lastU.get s.tracker.ref)) :
    s.countedCrossing d = { s with tracker := s.tracker.countCrossing d } := by
  unfold State.countedCrossing
  dsimp only
  rw [if_neg h]
  refine if_neg fun ⟨hp, level⟩ => hd ⟨hp, ?_⟩
  subst hp
  exact level

theorem Tracker.countCrossing_since (t : Tracker) (d : Direction) : (t.countCrossing d).since d = some 0 := by
  cases d <;> rfl

/-- A crossing's memory plays no part in a value set. -/
theorem State.valueSet_congr {s t : State} (n : Nat) (hb : t.bank = s.bank) (hh : t.engine.history = s.engine.history)
    (hl : t.link = s.link) (hs : t.tracker.state = s.tracker.state) (hr : t.tracker.ref = s.tracker.ref)
    (he : t.tracker.setElapsed = s.tracker.setElapsed) (hc : t.tracker.setClock = s.tracker.setClock) :
    t.valueSet n = s.valueSet n := by
  unfold State.valueSet State.considered State.arrangement
  rw [hb, hh, hl, hs, hr, he, hc]

/-- R90: the account of a window adds no tracked cycle to an OPEN interval. -/
theorem Aggregator.account_cycles {a : Aggregator} {i : Interval} (hi : a.interval = some i) (hf : a.freeze = none)
    (v : ValueSet) (event gap : Bool) : ∃ j, (a.account v event gap).interval = some j
      ∧ j.sums.cycles = i.sums.cycles ∧ j.sums.sets = i.sums.sets := by
  rw [Aggregator.account_open hi hf]
  refine ⟨_, rfl, ?_⟩
  by_cases summed : v.valid = true ∧ a.skip = false
  · rw [Interval.account_sums_added summed.1 summed.2]
    exact ⟨rfl, rfl⟩
  · rw [Interval.account_sums_held (by simpa [or_iff_not_imp_left] using summed)]
    exact ⟨rfl, rfl⟩

/-- R91: an OPEN interval takes a complete cycle. -/
theorem Aggregator.cycle_open {a : Aggregator} {i : Interval} (hi : a.interval = some i) (hf : a.freeze = none) (k : Nat) :
    a.cycle k = { a with
      interval := some { i with sums := { i.sums with cycles := i.sums.cycles + 1, sets := i.sums.sets + k } } } := by
  rw [Aggregator.cycle, if_pos (Aggregator.isOpen_of hi hf), hi]
  rfl

/-- A boundary gives the aggregator its window's account. -/
theorem State.placeBoundary_account (s : State) (n : Nat) :
    ∃ event gap, (s.placeBoundary n).aggregator = s.aggregator.account (s.valueSet n) event gap := by
  unfold State.placeBoundary
  dsimp only
  rw [State.takeWindow_aggregator, State.settleBurst_aggregator]
  exact ⟨_, _, rfl⟩

theorem Tracker.cycleEnding_of {t : Tracker} {d : Direction} (h : t.state = .tracking) (hd : d = .positive)
    (hm : t.cycleMark = true) : t.cycleEnding d = t.sincePos := if_pos ⟨h, hd, hm⟩

theorem Tracker.cycleEnding_none {t : Tracker} {d : Direction}
    (h : t.state ≠ .tracking ∨ d = .negative ∨ t.cycleMark = false ∨ t.sincePos = none) : t.cycleEnding d = none := by
  unfold Tracker.cycleEnding
  split
  · rename_i ends
    obtain ⟨state, direction, mark⟩ := ends
    simp_all
  · rfl

/-- What a counted crossing hands the aggregator: the cycle it completes, if it completes one, and then the window it may
end. -/
theorem State.countedCrossing_aggregator (s : State) (d : Direction) :
    let counted := ((s.tracker.cycleEnding d).map s.aggregator.cycle).getD s.aggregator
    (s.countedCrossing d).aggregator = counted
      ∨ ∃ v event gap, (s.countedCrossing d).aggregator = counted.account v event gap := by
  intro counted
  by_cases tracking : s.tracker.state = .tracking
  · rw [State.countedCrossing_tracking tracking]
    exact .inr ⟨_, State.placeBoundary_account _ _⟩
  · have same : counted = s.aggregator := by simp [counted, Tracker.cycleEnding_none (.inl tracking)]
    rw [same]
    by_cases returns : d = .positive ∧ 2000 ≤ s.tracker.lastU.get s.tracker.ref
    · rw [State.countedCrossing_returns tracking returns]
      exact .inr ⟨_, State.placeBoundary_account _ _⟩
    · rw [State.countedCrossing_remembered tracking returns]
      exact .inl rfl

/-- R91: a counted crossing adds to the tracked cycles and sets of an OPEN interval the cycle it completes, and nothing
else. -/
theorem State.countedCrossing_cycles {s : State} {i : Interval} (d : Direction) (hi : s.aggregator.interval = some i)
    (hf : s.aggregator.freeze = none) : ∃ j, (s.countedCrossing d).aggregator.interval = some j
      ∧ (∀ k, s.tracker.cycleEnding d = some k →
        j.sums.cycles = i.sums.cycles + 1 ∧ j.sums.sets = i.sums.sets + k)
      ∧ (s.tracker.cycleEnding d = none → j.sums.cycles = i.sums.cycles ∧ j.sums.sets = i.sums.sets) := by
  have handed := s.countedCrossing_aggregator d
  cases ending : s.tracker.cycleEnding d with
  | none =>
    simp only [ending, Option.map_none, Option.getD_none] at handed
    obtain e | ⟨v, event, gap, e⟩ := handed
    · exact ⟨i, e ▸ hi, by simp, fun _ => ⟨rfl, rfl⟩⟩
    · obtain ⟨j, hj, same⟩ := Aggregator.account_cycles hi hf v event gap
      exact ⟨j, e ▸ hj, by simp, fun _ => same⟩
  | some k =>
    simp only [ending, Option.map_some, Option.getD_some, Aggregator.cycle_open hi hf] at handed
    obtain e | ⟨v, event, gap, e⟩ := handed
    · exact ⟨_, congrArg Aggregator.interval e, by rintro _ ⟨rfl⟩; exact ⟨rfl, rfl⟩, by simp⟩
    · obtain ⟨j, hj, same⟩ := Aggregator.account_cycles (a := { s.aggregator with interval := some _ }) rfl hf v event gap
      exact ⟨j, e ▸ hj, by rintro _ ⟨rfl⟩; exact same, by simp⟩

/-- R12: every positive-going crossing after which the tracker is TRACKING leaves the cycle mark set. -/
theorem State.countedCrossing_cycleMark (s : State) (h : (s.countedCrossing .positive).tracker.state = .tracking) :
    (s.countedCrossing .positive).tracker.cycleMark = true := by
  by_cases tracking : s.tracker.state = .tracking
  · rw [State.countedCrossing_tracking tracking] at h ⊢
    obtain ⟨-, -, ⟨-, mark⟩ | ⟨outside, -⟩⟩ := State.placeBoundary_marks _ _
    · exact mark
    · exact absurd h outside
  · by_cases returns : (Direction.positive = .positive) ∧ 2000 ≤ s.tracker.lastU.get s.tracker.ref
    · rw [State.countedCrossing_returns tracking returns] at h ⊢
      obtain ⟨-, -, ⟨-, mark⟩ | ⟨outside, -⟩⟩ := State.placeBoundary_marks _ _
      · exact mark
      · exact absurd h outside
    · rw [State.countedCrossing_remembered tracking returns] at h
      exact absurd h tracking

/-- R10, R12: the window that a counted crossing ends in TRACKING, or as it returns the tracker to TRACKING. -/
theorem State.countedCrossing_issues {s : State} {d : Direction}
    (h : s.tracker.state = .tracking ∨ d = .positive ∧ 2000 ≤ s.tracker.lastU.get s.tracker.ref) :
    (s.countedCrossing d).engine.latest = some (State.valueSet
        { s with tracker := { s.tracker with state := .tracking } } (s.tracker.spanLength d))
      ∧ (s.countedCrossing d).tracker.sinceBoundary = 0 := by
  by_cases tracking : s.tracker.state = .tracking
  · rw [State.countedCrossing_tracking tracking, State.placeBoundary_issues]
    refine ⟨congrArg some (State.valueSet_congr _ rfl rfl rfl ?_ ?_ ?_ ?_), (State.placeBoundary_marks _ _).1⟩
    · cases d <;> exact tracking
    all_goals cases d <;> rfl
  · have returns := h.resolve_left tracking
    rw [State.countedCrossing_returns tracking returns, State.placeBoundary_issues]
    refine ⟨congrArg some (State.valueSet_congr _ rfl rfl rfl rfl ?_ ?_ ?_), (State.placeBoundary_marks _ _).1⟩
    all_goals cases d <;> rfl

/-- Settles O6. -/
theorem countedCrossingEndsWindow : Obligations.CountedCrossingEndsWindow := by
  intro s d _ length eligible
  have span : s.tracker.spanLength d = length := rfl
  refine ⟨fun h => ?_, fun ⟨tracking, ineligible⟩ => State.countedCrossing_remembered tracking ineligible,
    s.tracker.countCrossing_since d, fun hd h => ?_, fun i hi hf => ?_⟩
  · obtain ⟨latest, since⟩ := State.countedCrossing_issues h
    exact ⟨_, latest, congrArg _ span, rfl, rfl, rfl, since⟩
  · subst hd
    exact s.countedCrossing_cycleMark h
  · obtain ⟨j, hj, adds, same⟩ := State.countedCrossing_cycles d hi hf
    refine ⟨j, hj, fun k tracking hd mark held => adds k ?_, fun h => same (Tracker.cycleEnding_none h)⟩
    rw [Tracker.cycleEnding_of tracking hd mark, held]

end Sys2Proof.Machine
end

section
/-! O7 and O8: the root of a mean square, and the rounding of a power (R20, R24). -/

namespace Sys2Proof.Machine

open Sys2Proof

/-! ### The integer square root (R20, R92) -/

/-- The bits from `k - 1` down settle the root, once it lies in the `2 ^ k` values from `r` on. -/
theorem isqrtFrom_spec (k m r : Nat) (low : r * r ≤ m) (high : m < (r + 2 ^ k) * (r + 2 ^ k)) :
    isqrtFrom k m r * isqrtFrom k m r ≤ m ∧ m < (isqrtFrom k m r + 1) * (isqrtFrom k m r + 1) := by
  induction k generalizing r with
  | zero => exact ⟨low, high⟩
  | succ k ih =>
    rw [isqrtFrom]
    split
    next taken =>
      refine ih _ taken ?_
      rwa [Nat.add_assoc, ← Nat.two_mul, ← Nat.pow_succ']
    next skipped => exact ih _ low (Nat.not_le.mp skipped)

theorem isqrt_eq_sqrt {m : Nat} (h : m < 2 ^ 64) : isqrt m = Nat.sqrt m :=
  Nat.eq_sqrt.mpr (isqrtFrom_spec 32 m 0 (Nat.zero_le m) (by simpa using h))

/-! ### The sum of squares of a window (R20) -/

theorem squaresOf_cast (codes : List Int) : (squaresOf codes : Int) = (codes.map fun x => x * x).sum := by
  induction codes with
  | nil => rfl
  | cons x codes ih =>
    calc (squaresOf (x :: codes) : Int)
      _ = (x.natAbs * x.natAbs : Nat) + squaresOf codes := by simp [squaresOf]
      _ = ((x :: codes).map fun x => x * x).sum := by rw [Int.natAbs_mul_self, ih]; rfl

/-- Each code of 16 bits adds at most 2³⁰. -/
theorem squaresOf_le {codes : List Int} (h : ∀ x ∈ codes, -32768 ≤ x ∧ x ≤ 32767) :
    squaresOf codes ≤ codes.length * 2 ^ 30 := by
  have each : ∀ q ∈ codes.map fun x => x.natAbs * x.natAbs, q ≤ 2 ^ 30 := by
    simp only [List.mem_map]
    rintro _ ⟨x, mem, rfl⟩
    have small : x.natAbs ≤ 32768 := by have := h x mem; omega
    calc x.natAbs * x.natAbs
      _ ≤ 32768 * 32768 := Nat.mul_le_mul small small
      _ = 2 ^ 30 := by norm_num
  simpa [squaresOf] using List.sum_le_card_nsmul _ _ each

/-- Settles O7: the root is Mathlib's square root of the mean square, whose square is the greatest not above it. -/
theorem rootIsFloorOfSquareRoot : Obligations.RootIsFloorOfSquareRoot := by
  intro codes _ most range q m r
  have total : q ≤ codes.length * 2 ^ 30 := squaresOf_le range
  have mean : m ≤ 2 ^ 30 := Nat.div_le_of_le_mul total
  have root : r = Nat.sqrt m := isqrt_eq_sqrt (mean.trans_lt (by decide))
  rw [root]
  refine ⟨squaresOf_cast codes, by omega, mean, ?_, Nat.sqrt_le m, Nat.lt_succ_sqrt m⟩
  calc Nat.sqrt m
    _ ≤ Nat.sqrt (32768 * 32768) := Nat.sqrt_le_sqrt mean
    _ = 32768 := Nat.sqrt_eq 32768

/-! ### The rounding of a power (R24) -/

/-- |Pc| × 10,000 / D rounded to nearest with ties up: the size of a power before the clamp. -/
def powerMagnitude (pc : Int) (d : Nat) : Nat := (2 * (pc * 10000).natAbs + d) / (2 * d)

theorem powerMagnitude_neg (pc : Int) (d : Nat) : powerMagnitude (-pc) d = powerMagnitude pc d := by
  rw [powerMagnitude, Int.neg_mul, Int.natAbs_neg, powerMagnitude]

/-- Rounding reaches `k` exactly when the quotient is at least `k` less a half. -/
theorem le_powerMagnitude_iff {pc : Int} {d : Nat} (hpc : 0 ≤ pc) (hd : 0 < d) (k : Nat) :
    k ≤ powerMagnitude pc d ↔ (2 * k - 1) * (d : Int) ≤ 2 * (pc * 10000) := by
  rw [powerMagnitude, Nat.le_div_iff_mul_le (Nat.mul_pos Nat.two_pos hd), ← Int.ofNat_le]
  push_cast
  rw [abs_of_nonneg (by omega)]
  constructor <;> intro h <;> linarith

theorem powerValue_of_nonneg {pc : Int} (h : 0 ≤ pc) (d : Nat) :
    powerValue pc d = min 30000 (powerMagnitude pc d) := by
  rw [powerValue, if_neg (Int.not_lt.mpr h), clamp, ← powerMagnitude]
  omega

theorem powerValue_of_neg {pc : Int} (h : pc < 0) (d : Nat) :
    powerValue pc d = -min 30000 (powerMagnitude pc d) := by
  rw [powerValue, if_pos h, clamp, ← powerMagnitude]
  omega

theorem powerValue_nonneg {pc : Int} (h : 0 ≤ pc) (d : Nat) : 0 ≤ powerValue pc d := by
  rw [powerValue_of_nonneg h]
  omega

/-- A power changes sign with its product. -/
theorem powerValue_neg (pc : Int) (d : Nat) : powerValue (-pc) d = -powerValue pc d := by
  obtain neg | rfl | pos := Int.lt_trichotomy pc 0
  · rw [powerValue_of_nonneg (by omega), powerValue_of_neg neg, powerMagnitude_neg, Int.neg_neg]
  · have nothing : powerMagnitude 0 d = 0 := by simp [powerMagnitude]; omega
    simp [powerValue_of_nonneg, nothing]
  · rw [powerValue_of_neg (by omega), powerValue_of_nonneg pos.le, powerMagnitude_neg]

/-- The power of a product that is not negative reaches `k`, up to the clamp, when the quotient is at least `k` less a
half. -/
theorem le_powerValue_iff {pc : Int} {d k : Nat} (hpc : 0 ≤ pc) (hd : 0 < d) (hk : k ≤ 30000) :
    (k : Int) ≤ powerValue pc d ↔ (2 * k - 1) * (d : Int) ≤ 2 * (pc * 10000) := by
  rw [← le_powerMagnitude_iff hpc hd, powerValue_of_nonneg hpc]
  omega

/-- A product that is not negative and not clamped is rounded by at most half a unit. -/
theorem powerValue_error_of_nonneg {pc : Int} {d : Nat} (hpc : 0 ≤ pc) (hd : 0 < d) (h : powerValue pc d < 30000) :
    2 * (powerValue pc d * d - pc * 10000) ≤ d ∧ -(d : Int) ≤ 2 * (powerValue pc d * d - pc * 10000) := by
  obtain ⟨k, value⟩ := Int.eq_ofNat_of_zero_le (powerValue_nonneg hpc d)
  rw [value] at h ⊢
  have reached := (le_powerValue_iff hpc hd (k := k) (by omega)).mp (by omega)
  have passed := mt (le_powerValue_iff hpc hd (k := k + 1) (by omega)).mpr (by omega)
  push_cast at passed
  constructor <;> linarith

/-- Every product that is not clamped is rounded by at most half a unit. -/
theorem powerValue_error {pc : Int} {d : Nat} (hd : 0 < d) (low : -30000 < powerValue pc d)
    (high : powerValue pc d < 30000) :
    2 * (powerValue pc d * d - pc * 10000) ≤ d ∧ -(d : Int) ≤ 2 * (powerValue pc d * d - pc * 10000) := by
  by_cases hpc : 0 ≤ pc
  · exact powerValue_error_of_nonneg hpc hd high
  · have mirrored := powerValue_error_of_nonneg (pc := -pc) (by omega) hd (by rw [powerValue_neg]; omega)
    rw [powerValue_neg] at mirrored
    constructor <;> linarith

/-- A quotient halfway between `k` and `k + 1` is taken up. -/
theorem powerValue_tie {pc : Int} {d k : Nat} (hd : 0 < d) (hk : k < 30000)
    (tie : 2 * (pc * 10000) = (2 * k + 1) * d) : powerValue pc d = k + 1 := by
  have hpc : 0 ≤ pc := by
    have : (0 : Int) ≤ (2 * k + 1) * d := by positivity
    omega
  have reached : (k : Int) + 1 ≤ powerValue pc d :=
    (le_powerValue_iff hpc hd (k := k + 1) hk).mpr (by push_cast; linarith)
  have kept : powerValue pc d < k + 2 := by
    by_cases top : k + 2 ≤ 30000
    · refine Int.not_le.mp (mt (le_powerValue_iff hpc hd top).mp ?_)
      push_cast
      linarith
    · have := (powerValue_mem pc d).2
      omega
  omega

/-- The upper clamp is met exactly from 29,999.5 on. -/
theorem powerValue_top_iff {d : Nat} (hd : 0 < d) (pc : Int) :
    powerValue pc d = 30000 ↔ 59999 * (d : Int) ≤ 2 * (pc * 10000) := by
  have most := (powerValue_mem pc d).2
  by_cases hpc : 0 ≤ pc
  · have reached := le_powerValue_iff hpc hd (k := 30000) le_rfl
    norm_num at reached
    rw [← reached]
    omega
  · have value := powerValue_nonneg (pc := -pc) (by omega) d
    rw [powerValue_neg] at value
    omega

/-- Settles O8. -/
theorem powerRoundsAwayFromZero : Obligations.PowerRoundsAwayFromZero := by
  intro pc d hd
  refine ⟨(powerValue_mem pc d).1, (powerValue_mem pc d).2, powerValue_neg pc d, powerValue_error hd,
    fun k hk => powerValue_tie hd hk, powerValue_top_iff hd pc, ?_⟩
  have mirrored := powerValue_top_iff hd (-pc)
  rw [powerValue_neg] at mirrored
  omega

end Sys2Proof.Machine
end

section
/-! What a valid window does, said once: the tests of R38 in words, the extremes over the considered phases, and each field
of the part after a window. -/

namespace Sys2Proof.Machine

open Sys2Proof

/-! ### The tests of R38 -/

theorem anyIn_iff (c : PhaseSet) (test : Phase → Bool) : anyIn c test = true ↔ ∃ f, c.has f = true ∧ test f = true := by
  simp only [anyIn, Bool.or_eq_true, Bool.and_eq_true]
  constructor
  · rintro ((h | h) | h)
    · exact ⟨.a, h⟩
    · exact ⟨.b, h⟩
    · exact ⟨.c, h⟩
  · rintro ⟨f, h⟩
    cases f
    · exact .inl (.inl h)
    · exact .inl (.inr h)
    · exact .inr h

theorem allIn_iff (c : PhaseSet) (test : Phase → Bool) : allIn c test = true ↔ ∀ f, c.has f = true → test f = true := by
  simp only [allIn, Bool.and_eq_true, Bool.or_eq_true, Bool.not_eq_true', ← Bool.not_eq_true, ← imp_iff_not_or]
  constructor
  · rintro ⟨⟨ha, hb⟩, hc⟩ f
    cases f
    · exact ha
    · exact hb
    · exact hc
  · exact fun h => ⟨⟨h .a, h .b⟩, h .c⟩

section
variable (set : Settings) (c : PhaseSet) (u : Phase → Nat)

theorem dipStart_iff : dipStart set c u = true ↔ ∃ f, c.has f = true ∧ u f < set.td := by
  simp only [dipStart, anyIn_iff, decide_eq_true_iff]

theorem interruptionStart_iff : interruptionStart set c u = true ↔ ∀ f, c.has f = true → u f < set.ti := by
  simp only [interruptionStart, allIn_iff, decide_eq_true_iff]

theorem interruptionEnd_iff : interruptionEnd set c u = true ↔ ¬ ∀ f, c.has f = true → u f < set.ti + set.h := by
  simp only [interruptionEnd, anyIn_iff, decide_eq_true_iff, not_forall, Nat.not_lt, exists_prop]

theorem dipEnd_iff : dipEnd set c u = true ↔ ∀ f, c.has f = true → set.td + set.h ≤ u f := by
  simp only [dipEnd, allIn_iff, decide_eq_true_iff]

theorem swellStart_iff (clipped : Bool) :
    swellStart set c u clipped = true ↔ clipped = true ∨ ∃ f, c.has f = true ∧ set.ts < u f := by
  simp only [swellStart, Bool.or_eq_true, anyIn_iff, decide_eq_true_iff]

theorem swellEnd_iff {set : Settings} (h : set.h ≤ set.ts) (clipped : Bool) :
    swellEnd set c u clipped = true ↔ clipped = false ∧ ∀ f, c.has f = true → u f ≤ set.ts - set.h := by
  simp only [swellEnd, Bool.and_eq_true, Bool.not_eq_true', allIn_iff, decide_eq_true_iff, Nat.le_sub_iff_add_le h]

end

/-! ### Sets of phases and the extremes over them -/

@[simp] theorem PhaseSet.where'_has (test : Phase → Bool) (f : Phase) : (PhaseSet.where' test).has f = test f := by
  cases f <;> rfl

@[simp] theorem PhaseSet.union_has (s t : PhaseSet) (f : Phase) : (s.union t).has f = (s.has f || t.has f) := by
  cases f <;> rfl

/-- Phase A is considered under both arrangements (00_scope.md). -/
theorem State.considered_a (s : State) : s.considered.has .a = true := (s.considered_has .a).2 (.inl rfl)

/-- A value and a phase are the lowest of a set of phases, the lowest-lettered on a tie (R41). -/
structure LowestAt (c : PhaseSet) (u : Phase → Nat) (value : Nat) (phase : Phase) : Prop where
  has : c.has phase = true
  here : u phase = value
  least : ∀ f, c.has f = true → value ≤ u f
  first : ∀ f, c.has f = true → u f = value → phase.code ≤ f.code

/-- A value and a phase are the highest of a set of phases, the lowest-lettered on a tie (R50). -/
structure HighestAt (c : PhaseSet) (u : Phase → Nat) (value : Nat) (phase : Phase) : Prop where
  has : c.has phase = true
  here : u phase = value
  greatest : ∀ f, c.has f = true → u f ≤ value
  first : ∀ f, c.has f = true → u f = value → phase.code ≤ f.code

theorem Phase.forall_iff {p : Phase → Prop} : (∀ f, p f) ↔ p .a ∧ p .b ∧ p .c :=
  ⟨fun h => ⟨h .a, h .b, h .c⟩, fun ⟨ha, hb, hc⟩ f => by cases f <;> assumption⟩

/-- The comparisons go through the phases in letter order: B replaces A, and C replaces the better of the two, only where it
is considered and strictly lower. -/
theorem lowestOf_lowestAt {c : PhaseSet} (ha : c.has .a = true) (u : Phase → Nat) :
    LowestAt c u (lowestOf c u).1 (lowestOf c u).2 := by
  unfold lowestOf
  dsimp only
  split <;> rename_i hb <;> split <;> rename_i hc <;> rw [Bool.and_eq_true, decide_eq_true_iff] at hb hc
  all_goals refine ⟨?_, rfl, Phase.forall_iff.2 ?_, Phase.forall_iff.2 ?_⟩ <;> grind [PhaseSet.has, Phase.code]

theorem highestOf_highestAt {c : PhaseSet} (ha : c.has .a = true) (u : Phase → Nat) :
    HighestAt c u (highestOf c u).1 (highestOf c u).2 := by
  unfold highestOf
  dsimp only
  split <;> rename_i hb <;> split <;> rename_i hc <;> rw [Bool.and_eq_true, decide_eq_true_iff] at hb hc
  all_goals refine ⟨?_, rfl, Phase.forall_iff.2 ?_, Phase.forall_iff.2 ?_⟩ <;> grind [PhaseSet.has, Phase.code]

/-! ### The parts of a valid window

Each names one piece of `State.validWindow`, which `State.validWindow_eq` puts together again. -/

/-- What the checks of R40 make of the reduction context. -/
def State.redStep (s : State) (v : ValueSet) : RedStep :=
  reductionWindow s.bank.inForce s.considered v s.tracker.setQuality s.estimator.ring s.reduction

/-- The kind of the window (R60). -/
def State.kindAt (s : State) (v : ValueSet) : WindowKind :=
  windowKind true v.tracker (s.reduction.map (·.state)) (s.redStep v).after

/-- The context of the checks with a DIP window accumulated (R64). -/
def State.redContext (s : State) (v : ValueSet) : Option Reduction := (s.redStep v).accumulated (s.kindAt v) v

/-- What the builder makes of the window, with the record it hands over (R72, R73). -/
def State.built (s : State) (v : ValueSet) : Builder × Option Record :=
  (s.redStep v).build (s.redContext v) s.bank.inForce v s.builder

/-- What the window makes of the swell, with the record of a swell it closes (R50 to R52). -/
def State.swellStep (s : State) (v : ValueSet) : Option Swell × Option SwellRecord :=
  swellWindow s.bank.inForce s.considered v s.tracker.setQuality s.swell

/-- The records made at the window (R78). -/
def State.windowRecords (s : State) (v : ValueSet) : List Record :=
  ((s.gap.ending v.clock v.elapsed).map Record.gap).toList ++ (s.built v).2.toList
    ++ ((s.swellStep v).2.map Record.swell).toList

/-- The part after a valid window but for its records. -/
def State.windowTaken (s : State) (v : ValueSet) : State :=
  let t := { s with
    reduction := if (s.redStep v).closing then none else s.redContext v, swell := (s.swellStep v).1, gap := .closed,
    estimator := s.estimator.window (s.kindAt v) v, builder := (s.built v).1 }
  { t with aggregator := t.aggregator.account v (s.eventOpen || t.eventOpen) s.gapOpen }

theorem State.validWindow_eq (s : State) (v : ValueSet) :
    s.validWindow v = (s.windowTaken v).deliver (s.windowRecords v) := rfl

section
variable {s : State} {v : ValueSet} (valid : v.valid = true)
include valid

theorem State.takeWindow_valid : s.takeWindow v = (s.windowTaken v).deliver (s.windowRecords v) := by
  rw [State.takeWindow, if_pos valid, State.validWindow_eq]

theorem State.takeWindow_reduction :
    (s.takeWindow v).reduction = if (s.redStep v).closing then none else s.redContext v := by
  rw [State.takeWindow_valid valid, State.deliver_reduction]
  rfl

theorem State.takeWindow_swell : (s.takeWindow v).swell = (s.swellStep v).1 := by
  rw [State.takeWindow_valid valid, State.deliver_swell]
  rfl

/-- R55: every valid window leaves the gap CLOSED. -/
theorem State.takeWindow_gap : (s.takeWindow v).gap = .closed := by
  rw [State.takeWindow_valid valid, State.deliver_gap]
  rfl

theorem State.takeWindow_estimator : (s.takeWindow v).estimator = s.estimator.window (s.kindAt v) v := by
  rw [State.takeWindow_valid valid, State.deliver_estimator]
  rfl

theorem State.takeWindow_builder : (s.takeWindow v).builder = (s.built v).1 := by
  rw [State.takeWindow_valid valid, State.deliver_builder]
  rfl

theorem State.takeWindow_noRecord (h : s.windowRecords v = []) :
    (s.takeWindow v).matrix = s.matrix ∧ (s.takeWindow v).store = s.store := by
  rw [State.takeWindow_valid valid, h]
  exact ⟨rfl, rfl⟩

theorem State.takeWindow_oneRecord {r : Record} (h : s.windowRecords v = [r]) :
    (s.takeWindow v).matrix = countRecord s.matrix r ∧ (s.takeWindow v).store = (s.store.take s.now r).settle := by
  rw [State.takeWindow_valid valid, h]
  exact ⟨rfl, rfl⟩

end

/-! ### The records of a valid window -/

theorem GapContext.ending_closed {g : GapContext} (h : g.opened = none) (endClock endElapsed : Nat) :
    g.ending endClock endElapsed = none := by rw [GapContext.ending, h]; rfl

/-- With no swell open a window closes none. -/
theorem State.swellStep_noRecord {s : State} (h : s.swell = none) (v : ValueSet) : (s.swellStep v).2 = none := by
  rw [State.swellStep, h, swellWindow]
  split <;> rfl

/-- With no swell and no gap open, the records of a window are the builder's. -/
theorem State.windowRecords_built {s : State} (swell : s.swell = none) (gap : s.gap.opened = none) (v : ValueSet) :
    s.windowRecords v = (s.built v).2.toList := by
  rw [State.windowRecords, GapContext.ending_closed gap, State.swellStep_noRecord swell]
  simp

/-! ### The builder at a step (R72, R73) -/

theorem RedStep.build_opened {t : RedStep} (h : t.opened = true) (context : Option Reduction) (set : Settings) (v : ValueSet)
    (b : Builder) : t.build context set v b = b.notice := if_pos h

theorem RedStep.build_standing {t : RedStep} (opened : t.opened = false) (closing : t.closing = false)
    (context : Option Reduction) (set : Settings) (v : ValueSet) (b : Builder) : t.build context set v b = (b, none) := by
  unfold RedStep.build
  rw [opened, closing, if_neg Bool.false_ne_true]

theorem RedStep.build_closing {t : RedStep} {r : Reduction} (opened : t.opened = false) (closing : t.closing = true)
    (set : Settings) (v : ValueSet) (b : Builder) :
    t.build (some r) set v b = b.summary set.burstWindow (r.summary set v) := by
  unfold RedStep.build
  rw [opened, closing, if_neg Bool.false_ne_true]

theorem Builder.notice_empty {b : Builder} (h : b.members = []) : b.notice = (b, none) := by
  rw [Builder.notice, h]; rfl

theorem Builder.notice_some {b : Builder} (members : 1 ≤ b.members.length) (room : b.members.length ≤ 7) :
    b.notice = ({ b with timer := none }, none) := by
  rw [Builder.notice, if_neg, if_neg]
  · exact Nat.not_le.2 (Nat.lt_succ_of_le room)
  · rw [List.isEmpty_iff, ← List.length_eq_zero_iff]
    omega

/-- Two or more members make one BURST (R77). -/
theorem burstRecord_burst {members : List Summary} (h : 2 ≤ members.length) : burstRecord members = some (.burst members) := by
  match members, h with
  | _ :: _ :: _, _ => rfl

theorem Builder.notice_full {b : Builder} (h : 8 ≤ b.members.length) :
    b.notice = ({ members := [], timer := none }, some (.burst b.members)) := by
  rw [Builder.notice, if_neg, if_pos (show burstCapacity ≤ _ from h), burstRecord_burst (Nat.le_trans (by decide) h)]
  rw [List.isEmpty_iff, ← List.length_eq_zero_iff]
  omega

/-! ### The Estimator at a window (R61) -/

theorem Estimator.window_skip (e : Estimator) (kind : WindowKind) (v : ValueSet) : (e.window kind v).skip = false := by
  unfold Estimator.window
  split
  · rfl
  · rename_i set
    have clear : e.skip = false := Bool.eq_false_iff.2 set
    cases kind <;> exact clear

/-- Only a RING window with the skip mark clear enters the ring. -/
theorem Estimator.window_ring_same {e : Estimator} {kind : WindowKind} (h : kind ≠ .ring ∨ e.skip = true) (v : ValueSet) :
    (e.window kind v).ring = e.ring := by
  cases hs : e.skip
  · unfold Estimator.window
    rw [hs, if_neg Bool.false_ne_true]
    cases kind
    · simp [hs] at h
    all_goals rfl
  · unfold Estimator.window
    rw [if_pos hs]

theorem Estimator.window_ring_enters {e : Estimator} (h : e.skip = false) (v : ValueSet) :
    (e.window .ring v).ring = ({ p := v.totalP, s := v.totalS } :: e.ring).take 20 := by
  unfold Estimator.window
  rw [h, if_neg Bool.false_ne_true]
  rfl

end Sys2Proof.Machine
end

section
/-! O13: an invalid window holds the contexts and counts the run. -/

namespace Sys2Proof.Machine

open Sys2Proof

/-- An invalid window opens a gap exactly at a run count of 19 with the gap CLOSED (R54). -/
theorem GapContext.invalid_opens_iff (g : GapContext) (v : ValueSet) (q : Quality) :
    (g.invalid v q).2 = true ↔ g.opened = none ∧ g.runCount = 19 := by
  unfold GapContext.invalid gapRun
  cases g.opened with
  | some o => simp
  | none =>
    dsimp only
    split
    · simp only [true_and, true_iff]
      omega
    · simp only [true_and, Bool.false_eq_true, false_iff]
      omega

theorem GapContext.invalid_runCount (g : GapContext) (v : ValueSet) (q : Quality) :
    (g.invalid v q).1.runCount = min 20 (g.runCount + 1) := by
  unfold GapContext.invalid
  dsimp only
  split
  · rfl
  · split <;> rfl

/-- A run starts at its first window, and its start is kept (R54). -/
theorem GapContext.invalid_runStart (g : GapContext) (v : ValueSet) (q : Quality) :
    (g.invalid v q).1.runStart = some (
      if g.runCount = 0 then { clock := v.clock, elapsed := v.elapsed, quality := q }
      else g.runStart.getD { clock := v.clock, elapsed := v.elapsed, quality := q }) := by
  unfold GapContext.invalid
  dsimp only
  split
  · rfl
  · split <;> rfl

theorem GapContext.invalid_open {g : GapContext} {o : OpenGap} (h : g.opened = some o) (v : ValueSet) (q : Quality) :
    (g.invalid v q).1.opened = some { o with windows := min 4294967295 (o.windows + 1) } := by
  rw [GapContext.invalid, h]
  rfl

theorem GapContext.invalid_closed {g : GapContext} (h : g.opened = none) (hc : g.runCount ≠ 19) (v : ValueSet) (q : Quality) :
    (g.invalid v q).1.opened = none := by
  unfold GapContext.invalid gapRun
  rw [h]
  dsimp only
  rw [if_neg (by omega)]

/-- The twentieth window of a run opens the gap from the run start with its 20 windows (R54). -/
theorem GapContext.invalid_twentieth {g : GapContext} (h : g.opened = none) (hc : g.runCount = 19) (v : ValueSet) (q : Quality) :
    ∃ start, (g.invalid v q).1.runStart = some start
      ∧ (g.invalid v q).1.opened = some { start := start, windows := 20 } := by
  refine ⟨_, g.invalid_runStart v q, ?_⟩
  unfold GapContext.invalid gapRun
  rw [h, hc]
  rfl

/-- An invalid window that opens no gap changes the gap and the skip mark alone, beside the aggregator. -/
theorem State.takeWindow_held {s : State} {v : ValueSet} (invalid : v.valid = false)
    (h : (s.gap.invalid v s.tracker.setQuality).2 ≠ true) :
    s.takeWindow v = { s with
      gap := (s.gap.invalid v s.tracker.setQuality).1, estimator := s.estimator.window .neither v,
      aggregator := (s.takeWindow v).aggregator } := by
  rw [State.takeWindow, invalid, if_neg Bool.false_ne_true, State.invalidWindow, if_neg h]

/-- An invalid window that opens a gap marks the open contexts and empties the ring (R54, R62). -/
theorem State.takeWindow_gapOpens {s : State} {v : ValueSet} (invalid : v.valid = false)
    (h : (s.gap.invalid v s.tracker.setQuality).2 = true) :
    s.takeWindow v = { s with
      gap := (s.gap.invalid v s.tracker.setQuality).1, estimator := (s.estimator.window .neither v).emptied,
      reduction := s.reduction.map fun r => { r with gapInside := true },
      swell := s.swell.map fun w => { w with gapInside := true }, aggregator := (s.takeWindow v).aggregator } := by
  rw [State.takeWindow, invalid, if_neg Bool.false_ne_true, State.invalidWindow, if_pos h]

/-- At every invalid window the builder, the matrix and the store stand, the skip mark is clear, and the gap counts. -/
theorem State.takeWindow_invalid {s : State} {v : ValueSet} (invalid : v.valid = false) :
    (s.takeWindow v).builder = s.builder ∧ (s.takeWindow v).matrix = s.matrix ∧ (s.takeWindow v).store = s.store
      ∧ (s.takeWindow v).estimator.skip = false ∧ (s.takeWindow v).gap = (s.gap.invalid v s.tracker.setQuality).1 := by
  have clear := s.estimator.window_skip .neither v
  by_cases h : (s.gap.invalid v s.tracker.setQuality).2 = true
  · rw [State.takeWindow_gapOpens invalid h]
    exact ⟨rfl, rfl, rfl, clear, rfl⟩
  · rw [State.takeWindow_held invalid h]
    exact ⟨rfl, rfl, rfl, clear, rfl⟩

/-- Settles O13, by whether the window is the twentieth of a run with the gap CLOSED. -/
theorem invalidWindowsHoldTheContexts : Obligations.InvalidWindowsHoldTheContexts := by
  intro s v invalid t
  have opens := s.gap.invalid_opens_iff v s.tracker.setQuality
  have start := s.gap.invalid_runStart v s.tracker.setQuality
  obtain ⟨builder, matrix, store, skip, gap⟩ := State.takeWindow_invalid (s := s) invalid
  refine ⟨builder, matrix, store, skip, gap ▸ s.gap.invalid_runCount v _, fun first => ?first,
    fun held running was => ?running, fun o isOpen => gap ▸ GapContext.invalid_open isOpen v _, fun other => ?other,
    fun closed twentieth => ?twentieth⟩
  case first => rw [gap, start, if_pos first]
  case running => rw [gap, start, if_neg running, was]; rfl
  case other =>
    have notOpens : (s.gap.invalid v s.tracker.setQuality).2 ≠ true := by
      rw [Ne, opens]
      rintro ⟨closed, nineteen⟩
      simp [closed, nineteen] at other
    have taken : t = _ := State.takeWindow_held invalid notOpens
    refine ⟨by rw [taken], by rw [taken], ?_, fun closed => ?_⟩
    · rw [taken]
      exact Estimator.window_ring_same (.inl (by decide)) v
    · rw [gap]
      exact GapContext.invalid_closed closed (by simpa [closed] using other) v _
  case twentieth =>
    have taken : t = _ := State.takeWindow_gapOpens invalid (opens.2 ⟨closed, twentieth⟩)
    refine ⟨by rw [taken], by rw [taken], by rw [taken]; rfl, ?_⟩
    rw [gap]
    exact GapContext.invalid_twentieth closed twentieth v _

end Sys2Proof.Machine
end

section
/-! O10: a valid window with no reduction open opens one, or enters the ring. -/

namespace Sys2Proof.Machine

open Sys2Proof

/-! ### The checks of R40 on no context -/

/-- The running updates leave what the interruption check reads and sets alone. -/
theorem Reduction.checkInterruption_running (r : Reduction) (set : Settings) (c : PhaseSet) (v : ValueSet) :
    (r.checkInterruption set c v).running set c v = (r.running set c v).checkInterruption set c v := by
  unfold Reduction.checkInterruption
  split <;> rfl

/-- The opening window's running updates find its own phases and residual, and add the clipped mark (R41, R44). -/
theorem openReduction_running (set : Settings) (c : PhaseSet) (v : ValueSet) (q : Quality) (dir : DirectionFields) :
    (openReduction set c v q dir).running set c v = { openReduction set c v q dir with clippedInside := v.clipped } := by
  have same : ∀ x : PhaseSet, x.union x = x := fun x => by simp [PhaseSet.union]
  simp [Reduction.running, openReduction, same]

theorem reductionWindow_opens {set : Settings} {c : PhaseSet} {v : ValueSet} (below : dipStart set c v.u = true) (q : Quality)
    (ring : List RingEntry) :
    reductionWindow set c v q ring none =
      { context := some (Reduction.checkInterruption
          { openReduction set c v q (openingFields ring) with clippedInside := v.clipped } set c v),
        opened := true, closing := false } := by
  rw [reductionWindow, if_pos below]
  dsimp only
  rw [Reduction.checkInterruption_running, openReduction_running]

theorem reductionWindow_idle {set : Settings} {c : PhaseSet} {v : ValueSet} (below : ¬ dipStart set c v.u = true) (q : Quality)
    (ring : List RingEntry) :
    reductionWindow set c v q ring none = { context := none, opened := false, closing := false } := by
  rw [reductionWindow, if_neg below]

theorem Reduction.checkInterruption_pos {set : Settings} {c : PhaseSet} {v : ValueSet}
    (h : interruptionStart set c v.u = true) (r : Reduction) : r.checkInterruption set c v = r.interrupt v.elapsed := if_pos h

theorem Reduction.checkInterruption_neg {set : Settings} {c : PhaseSet} {v : ValueSet}
    (h : ¬ interruptionStart set c v.u = true) (r : Reduction) : r.checkInterruption set c v = r := if_neg h

/-! ### The kind of a window (R60) and what it accumulates -/

/-- A window after which the context stands in DIP is a DIP window. -/
theorem windowKind_dip (tracker : TrackState) (before : Option RedState) :
    windowKind true tracker before (some .dip) = .dip := by simp [windowKind]

/-- A window after which the context stands in another open state is neither a RING nor a DIP window. -/
theorem windowKind_open {after : RedState} (h : after ≠ .dip) (tracker : TrackState) (before : Option RedState) :
    windowKind true tracker before (some after) = .neither := by simp [windowKind, h]

theorem windowKind_idle (tracker : TrackState) :
    windowKind true tracker none none = if tracker = .tracking then .ring else .neither := by simp [windowKind]

section
variable {s : State} {v : ValueSet} {r : Reduction} {opened : Bool}

/-- A step that leaves its context in DIP accumulates the window (R64). -/
theorem State.redContext_dip (step : s.redStep v = { context := some r, opened := opened, closing := false })
    (dip : r.state = .dip) : s.kindAt v = .dip ∧ s.redContext v = some { r with dir := r.dir.accumulate v r.spannedLoss } := by
  have kind : s.kindAt v = .dip := by
    rw [State.kindAt, step]
    show windowKind true v.tracker _ (some r.state) = _
    rw [dip, windowKind_dip]
  rw [State.redContext, kind, step]
  exact ⟨rfl, rfl⟩

/-- A step that leaves its context in another state does not. -/
theorem State.redContext_open (step : s.redStep v = { context := some r, opened := opened, closing := false })
    (notDip : r.state ≠ .dip) : s.kindAt v = .neither ∧ s.redContext v = some r := by
  have kind : s.kindAt v = .neither := by
    rw [State.kindAt, step]
    exact windowKind_open notDip _ _
  rw [State.redContext, kind, step]
  exact ⟨rfl, rfl⟩

end

/-! ### The opening -/

theorem DirectionFields.opening_ring (ring : List RingEntry) :
    (openingFields ring).ref = referencesOf ring ∧ (ring.length < 20 → (openingFields ring).ref = none)
      ∧ (ring.length = 20 → (openingFields ring).ref = some
          { p := (ring.map RingEntry.p).sum.tdiv 20, s := (ring.map RingEntry.s).sum / 20 }) := by
  refine ⟨rfl, fun short => ?_, fun full => ?_⟩
  · exact if_neg (Nat.not_le.2 short)
  · exact if_pos (Nat.le_of_eq full.symm)

/-- The reduction that a window opens in DIP, before its checks for an interruption (R41, R44). -/
def State.opening (s : State) (v : ValueSet) : Reduction :=
  { openReduction s.bank.inForce s.considered v s.tracker.setQuality (openingFields s.estimator.ring) with
    clippedInside := v.clipped }

theorem State.redStep_opens {s : State} {v : ValueSet} (idle : s.reduction = none)
    (below : dipStart s.bank.inForce s.considered v.u = true) :
    s.redStep v = { context := some ((s.opening v).checkInterruption s.bank.inForce s.considered v), opened := true,
                    closing := false } := by
  rw [State.redStep, idle, reductionWindow_opens below]
  rfl

theorem State.redStep_idle {s : State} {v : ValueSet} (idle : s.reduction = none)
    (above : ¬ dipStart s.bank.inForce s.considered v.u = true) :
    s.redStep v = { context := none, opened := false, closing := false } := by
  rw [State.redStep, idle, reductionWindow_idle above]

/-- What a window opens: INTERRUPTED with its first entry when every considered phase is below Ti, and otherwise a DIP that
has accumulated its own window (R41, R42, R64). It is no RING window. -/
theorem State.redContext_opens {s : State} {v : ValueSet} (idle : s.reduction = none)
    (below : dipStart s.bank.inForce s.considered v.u = true) :
    s.kindAt v ≠ .ring ∧ ∃ r, s.redContext v = some r
      ∧ r = { s.opening v with state := r.state, interruption := r.interruption, dir := r.dir }
      ∧ (interruptionStart s.bank.inForce s.considered v.u = true → r = (s.opening v).interrupt v.elapsed)
      ∧ (¬ interruptionStart s.bank.inForce s.considered v.u = true →
        r = { s.opening v with dir := (openingFields s.estimator.ring).accumulate v false }) := by
  have step := State.redStep_opens idle below
  by_cases lost : interruptionStart s.bank.inForce s.considered v.u = true
  · rw [Reduction.checkInterruption_pos lost] at step
    obtain ⟨kind, context⟩ := State.redContext_open step (by simp [Reduction.interrupt])
    exact ⟨by rw [kind]; decide, _, context, rfl, fun _ => rfl, fun h => absurd lost h⟩
  · rw [Reduction.checkInterruption_neg lost] at step
    obtain ⟨kind, context⟩ := State.redContext_dip step rfl
    exact ⟨by rw [kind]; decide, _, context, rfl, fun h => absurd h lost, fun _ => rfl⟩

/-- With no reduction open and no considered phase below Td, a TRACKING window is a RING window (R60). -/
theorem State.kindAt_idle {s : State} {v : ValueSet} (idle : s.reduction = none)
    (above : ¬ dipStart s.bank.inForce s.considered v.u = true) :
    s.kindAt v = if v.tracker = .tracking then .ring else .neither := by
  rw [State.kindAt, State.redStep_idle idle above, idle]
  exact windowKind_idle _

/-- Settles O10, by whether a considered phase is below Td: the step opens a reduction, or it is idle. -/
theorem windowOpensReductionOrFillsRing : Obligations.WindowOpensReductionOrFillsRing := by
  intro s v valid idle t ring below interrupted
  have belowIff : dipStart s.bank.inForce s.considered v.u = true ↔ below := dipStart_iff _ _ _
  have lostIff : interruptionStart s.bank.inForce s.considered v.u = true ↔ interrupted := interruptionStart_iff _ _ _
  have reduction : t.reduction = _ := State.takeWindow_reduction valid
  have builder : t.builder = _ := State.takeWindow_builder valid
  have estimator : t.estimator = _ := State.takeWindow_estimator valid
  have opens (h : below) : s.redStep v = _ := State.redStep_opens idle (belowIff.2 h)
  have stays (h : ¬ below) : s.redStep v = _ := State.redStep_idle idle (mt belowIff.1 h)
  have notice (h : below) : s.built v = s.builder.notice := RedStep.build_opened (by rw [opens h]) _ _ _ _
  have standing (h : ¬ below) : s.built v = (s.builder, none) :=
    RedStep.build_standing (by rw [stays h]) (by rw [stays h]) _ _ _ _
  refine ⟨fun h => ?opens, fun h empty => ?empty, fun h few room => ?few, fun h full => ?full,
    fun h swell gap => ⟨fun room => ?noRecord, fun full => ?burst⟩, fun h => ⟨?idle, ?stands, fun swell gap => ?nothing⟩,
    ?skip, fun h tracking clear => ?enters, fun h => ?ringKept⟩
  case opens =>
    obtain ⟨-, r, context, shape, lost, dip⟩ := State.redContext_opens idle (belowIff.2 h)
    rw [opens h, if_neg Bool.false_ne_true, context] at reduction
    obtain ⟨has, here, least, first⟩ := lowestOf_lowestAt s.considered_a v.u
    obtain ⟨refs, short, full⟩ := DirectionFields.opening_ring ring
    refine ⟨r, reduction, fun h => by rw [lost (lostIff.2 h)]; exact ⟨rfl, rfl⟩,
      fun h => by rw [dip (mt lostIff.1 h)]; exact ⟨rfl, rfl⟩, ?start, fun f => ?phases, ?has, ?residual,
      fun f hf => ?lowest, ?clipped, ?gap, ?loss, ?atLoss, openingFields ring, rfl, refs, short, full,
      fun h => by rw [lost (lostIff.2 h)]; rfl, fun h => by rw [dip (mt lostIff.1 h)]⟩
    all_goals rw [shape]
    case phases => simp [State.opening, openReduction]
    case has => exact has
    case residual => exact here
    case lowest => exact ⟨least f hf, first f hf⟩
    all_goals rfl
  case empty => rw [builder, notice h, Builder.notice_empty empty]
  case few => rw [builder, notice h, Builder.notice_some few room]
  case full => rw [builder, notice h, Builder.notice_full full]
  case noRecord =>
    refine State.takeWindow_noRecord valid ?_
    rw [State.windowRecords_built swell gap, notice h]
    rcases Nat.eq_zero_or_pos s.builder.members.length with empty | few
    · rw [Builder.notice_empty (List.length_eq_zero_iff.1 empty)]; rfl
    · rw [Builder.notice_some few room]; rfl
  case burst =>
    refine State.takeWindow_oneRecord valid ?_
    rw [State.windowRecords_built swell gap, notice h, Builder.notice_full full]
    rfl
  case idle =>
    rw [reduction, State.redContext, stays h]
    rfl
  case stands => rw [builder, standing h]
  case nothing =>
    refine State.takeWindow_noRecord valid ?_
    rw [State.windowRecords_built swell gap, standing h]
    rfl
  case skip => rw [estimator, Estimator.window_skip]
  case enters =>
    rw [estimator, State.kindAt_idle idle (mt belowIff.1 h), if_pos tracking, Estimator.window_ring_enters clear]
  case ringKept =>
    rw [estimator]
    refine Estimator.window_ring_same ?_ v
    by_cases opens : below
    · exact .inl (State.redContext_opens idle (belowIff.2 opens)).1
    · obtain below | outside | skipped := h
      · exact absurd below opens
      · rw [State.kindAt_idle idle (mt belowIff.1 opens), if_neg outside]
        exact .inl (by decide)
      · exact .inr skipped

end Sys2Proof.Machine
end

section
/-! O11: an open reduction moves, is updated, and closes. -/

namespace Sys2Proof.Machine

open Sys2Proof

/-! ### The checks of R40 on an open context -/

/-- A step after which the context is open. -/
def RedStep.stay (r : Reduction) : RedStep := { context := some r, opened := false, closing := false }

/-- A step that closes the event. -/
def RedStep.close (r : Reduction) : RedStep := { context := some r, opened := false, closing := true }

/-- What a valid window can make of an open reduction, one constructor for each way through the checks of R40. -/
inductive Reduction.Steps (set : Settings) (c : PhaseSet) (v : ValueSet) (r : Reduction) : RedStep → Prop
  | held (lost : r.state = .supplyLost) : Steps set c v r (.stay r)
  | endsDip (dip : r.state = .dip) (ended : dipEnd set c v.u = true) : Steps set c v r (.close (r.running set c v))
  | interrupts (dip : r.state = .dip) (goesOn : ¬ dipEnd set c v.u = true) (lost : interruptionStart set c v.u = true) :
    Steps set c v r (.stay ((r.running set c v).interrupt v.elapsed))
  | staysDip (dip : r.state = .dip) (goesOn : ¬ dipEnd set c v.u = true) (present : ¬ interruptionStart set c v.u = true) :
    Steps set c v r (.stay (r.running set c v))
  | staysInterrupted (interrupted : r.state = .interrupted) (absent : ¬ interruptionEnd set c v.u = true) :
    Steps set c v r (.stay (r.running set c v))
  | endsInterruption (interrupted : r.state = .interrupted) (back : interruptionEnd set c v.u = true)
    (ended : dipEnd set c v.u = true) : Steps set c v r (.close ((r.running set c v).recover v.elapsed))
  | recovers (interrupted : r.state = .interrupted) (back : interruptionEnd set c v.u = true)
    (goesOn : ¬ dipEnd set c v.u = true) : Steps set c v r (.stay ((r.running set c v).recover v.elapsed))

/-- A phase at Ti + H or above is not below Ti: an interruption that ends does not start again in the same window. -/
theorem interruptionEnd_not_start {set : Settings} {c : PhaseSet} {u : Phase → Nat} (h : interruptionEnd set c u = true) :
    ¬ interruptionStart set c u = true := by
  rw [interruptionStart_iff]
  rw [interruptionEnd_iff] at h
  exact fun below => h fun f hf => Nat.lt_add_right _ (below f hf)

theorem Reduction.checkDip_ended {set : Settings} {c : PhaseSet} {v : ValueSet} (h : dipEnd set c v.u = true)
    (r : Reduction) : r.checkDip set c v = .close (r.running set c v) := if_pos h

theorem Reduction.checkDip_goesOn {set : Settings} {c : PhaseSet} {v : ValueSet} (h : ¬ dipEnd set c v.u = true)
    (r : Reduction) : r.checkDip set c v = .stay ((r.running set c v).checkInterruption set c v) := by
  rw [← Reduction.checkInterruption_running]
  exact if_neg h

theorem reductionWindow_steps (set : Settings) (c : PhaseSet) (v : ValueSet) (q : Quality) (ring : List RingEntry)
    (r : Reduction) : r.Steps set c v (reductionWindow set c v q ring (some r)) := by
  unfold reductionWindow
  dsimp only
  split <;> rename_i state
  case h_1 => exact .held state
  case h_2 =>
    by_cases ended : dipEnd set c v.u = true
    · rw [Reduction.checkDip_ended ended]
      exact .endsDip state ended
    · rw [Reduction.checkDip_goesOn ended]
      by_cases lost : interruptionStart set c v.u = true
      · rw [Reduction.checkInterruption_pos lost]
        exact .interrupts state ended lost
      · rw [Reduction.checkInterruption_neg lost]
        exact .staysDip state ended lost
  case h_3 =>
    by_cases back : interruptionEnd set c v.u = true
    · rw [if_pos back]
      by_cases ended : dipEnd set c v.u = true
      · rw [Reduction.checkDip_ended ended]
        exact .endsInterruption state back ended
      · rw [Reduction.checkDip_goesOn ended, Reduction.checkInterruption_neg (interruptionEnd_not_start back)]
        exact .recovers state back ended
    · rw [if_neg back]
      exact .staysInterrupted state back

section
variable {set : Settings} {c : PhaseSet} {v : ValueSet} {r : Reduction} {step : RedStep}

theorem Reduction.Steps.not_opened (h : r.Steps set c v step) : step.opened = false := by cases h <;> rfl

/-- A window closes the event from DIP, or from an interruption that it ends, when every considered phase is at Td + H. -/
theorem Reduction.Steps.closing_iff (h : r.Steps set c v step) :
    step.closing = true ↔ dipEnd set c v.u = true
      ∧ (r.state = .dip ∨ (r.state = .interrupted ∧ interruptionEnd set c v.u = true)) := by
  cases h <;> simp [RedStep.stay, RedStep.close, *]

/-- The interruption part as a closing event holds it: an interruption that the window ends has its last end there (R43). -/
def Reduction.partAt (r : Reduction) (elapsed : Nat) : Option InterruptionPart :=
  if r.state = .interrupted then r.interruption.map fun x => { x with last := some elapsed } else r.interruption

/-- The context that a window closes has its running updates, in DIP. -/
theorem Reduction.Steps.closed (h : r.Steps set c v step) (closing : step.closing = true) :
    step = .close { r.running set c v with state := .dip, interruption := r.partAt v.elapsed } := by
  cases h with
  | endsDip dip =>
    have part : r.partAt v.elapsed = r.interruption := if_neg (by rw [dip]; decide)
    rw [part, ← dip]
    rfl
  | endsInterruption interrupted =>
    have part : r.partAt v.elapsed = _ := if_pos interrupted
    rw [part]
    rfl
  | _ => cases closing

/-- R44: phases below Td join the phase set, and a lower U½ becomes the residual. -/
theorem Reduction.running_updated (ha : c.has .a = true) (r : Reduction) (set : Settings) (v : ValueSet) :
    let x := r.running set c v
    (∀ f, x.phases.has f = true ↔ (r.phases.has f = true ∨ (c.has f = true ∧ v.u f < set.td)))
      ∧ x.residual ≤ r.residual ∧ (∀ f, c.has f = true → x.residual ≤ v.u f)
      ∧ ((x.residual = r.residual ∧ x.residualPhase = r.residualPhase)
        ∨ (x.residual < r.residual ∧ c.has x.residualPhase = true ∧ v.u x.residualPhase = x.residual
          ∧ ∀ f, c.has f = true → v.u f = x.residual → x.residualPhase.code ≤ f.code)) := by
  obtain ⟨has, here, least, first⟩ := lowestOf_lowestAt ha v.u
  refine ⟨fun f => by simp [Reduction.running], ?_⟩
  unfold Reduction.running
  dsimp only
  by_cases lower : (lowestOf c v.u).1 < r.residual
  · rw [if_pos lower, if_pos lower]
    exact ⟨Nat.le_of_lt lower, least, .inr ⟨lower, has, here, first⟩⟩
  · rw [if_neg lower, if_neg lower]
    exact ⟨Nat.le_refl _, fun f hf => (Nat.le_of_not_lt lower).trans (least f hf), .inl ⟨rfl, rfl⟩⟩

end

/-- R42: an entry into INTERRUPTED makes the part present, or keeps its first start and counts the entry. -/
theorem enterInterruption_eq (part : Option InterruptionPart) (elapsed : Nat) :
    enterInterruption part elapsed = match part with
      | none => { first := elapsed, last := none, entries := 1 }
      | some y => { y with entries := min 65535 (y.entries + 1) } := by
  cases part <;> rfl

/-! ### What a window makes of the part while a reduction is open -/

/-- A window while a reduction is open is no RING window (R60). -/
theorem windowKind_notRing (tracker : TrackState) (before : RedState) (after : Option RedState) :
    windowKind true tracker (some before) after ≠ .ring := by
  unfold windowKind
  rw [if_neg (by decide)]
  split
  · decide
  · rw [if_neg (by simp)]
    decide

/-- A window that closes the event is a DIP window when it closes it from DIP (R60). -/
theorem windowKind_closing (tracker : TrackState) (before : RedState) :
    windowKind true tracker (some before) none = if before = .dip then .dip else .neither := by
  cases before <;> simp [windowKind]

section
variable {s : State} {v : ValueSet} {r : Reduction}

theorem State.redStep_steps (isOpen : s.reduction = some r) (v : ValueSet) :
    r.Steps s.bank.inForce s.considered v (s.redStep v) := by
  rw [State.redStep, isOpen]
  exact reductionWindow_steps _ _ _ _ _ _

/-- The context after a window that does not close the event: a DIP window is in its accumulators (R64). -/
theorem State.takeWindow_stays (valid : v.valid = true) (step : s.redStep v = .stay r) :
    (s.takeWindow v).reduction =
      some { r with dir := if r.state = .dip then r.dir.accumulate v r.spannedLoss else r.dir } := by
  rw [State.takeWindow_reduction valid, step, RedStep.stay, if_neg Bool.false_ne_true]
  by_cases dip : r.state = .dip
  · rw [(State.redContext_dip step dip).2, if_pos dip]
  · rw [(State.redContext_open step dip).2, if_neg dip]

/-- The context of which a closing window makes the summary: with its running updates, the end of an interruption that the
window ends, and the window in its accumulators when it closes the event from DIP (R43 to R45, R64). -/
def Reduction.closedBy (r : Reduction) (set : Settings) (c : PhaseSet) (v : ValueSet) : Reduction :=
  { r.running set c v with
    state := .dip, interruption := r.partAt v.elapsed,
    dir := if r.state = .dip then r.dir.accumulate v r.spannedLoss else r.dir }

theorem State.built_closing (isOpen : s.reduction = some r) (closing : (s.redStep v).closing = true) :
    s.built v = s.builder.summary s.bank.inForce.burstWindow
      ((r.closedBy s.bank.inForce s.considered v).summary s.bank.inForce v) := by
  have step := (State.redStep_steps isOpen v).closed closing
  have kind : s.kindAt v = if r.state = .dip then .dip else .neither := by
    rw [State.kindAt, step, isOpen]
    exact windowKind_closing _ _
  have context : s.redContext v = some (r.closedBy s.bank.inForce s.considered v) := by
    rw [State.redContext, kind, step, Reduction.closedBy]
    by_cases dip : r.state = .dip
    · rw [if_pos dip, if_pos dip]; rfl
    · rw [if_neg dip, if_neg dip]; rfl
  rw [State.built, context]
  exact RedStep.build_closing (by rw [step]; rfl) closing _ _ _

theorem DirectionFields.accumulate_ref (d : DirectionFields) (v : ValueSet) (spanned : Bool) :
    (d.accumulate v spanned).ref = d.ref := by
  unfold DirectionFields.accumulate
  split
  · rfl
  · split
    · dsimp only
      split <;> rfl
    · rfl

/-- The references of a closing event are those of its opening (R63). -/
theorem Reduction.closedBy_ref (r : Reduction) (set : Settings) (c : PhaseSet) (v : ValueSet) :
    (r.closedBy set c v).dir.ref = r.dir.ref := by
  unfold Reduction.closedBy
  dsimp only
  split
  · exact r.dir.accumulate_ref v _
  · rfl

end

/-- R72: with burst window 0 a summary is a REDUCTION record. -/
theorem Builder.summary_alone {window : Nat} (h : window = 0) (b : Builder) (m : Summary) :
    b.summary window m = (b, some (.reduction m)) := if_pos h

/-- R72: otherwise it is the newest member, and the timer runs from the close. -/
theorem Builder.summary_member {window : Nat} (h : window ≠ 0) (b : Builder) (m : Summary) :
    b.summary window m = ({ members := b.members ++ [m], timer := some (m.closeElapsed + window) }, none) := if_neg h

/-- Settles O11, by the ways through the checks of R40 on an open reduction. -/
theorem reductionMovesAndCloses : Obligations.ReductionMovesAndCloses := by
  intro s v r valid isOpen set t all ended lost recovered closes part updated
  have endedIff : dipEnd set s.considered v.u = true ↔ ended := dipEnd_iff _ _ _
  have lostIff : interruptionStart set s.considered v.u = true ↔ lost := interruptionStart_iff _ _ _
  have backIff : interruptionEnd set s.considered v.u = true ↔ recovered := interruptionEnd_iff _ _ _
  have steps := State.redStep_steps isOpen v
  have closingIff : (s.redStep v).closing = true ↔ closes := by
    rw [steps.closing_iff, endedIff, backIff]
  have running := Reduction.running_updated s.considered_a r set v
  refine ⟨?estimator, fun supplyLost => ?held, fun notLost goesOn => ?moves, fun goesOn => ?standing, fun h => ?closed⟩
  case estimator =>
    have kind : s.kindAt v ≠ .ring := by
      rw [State.kindAt, isOpen]
      exact windowKind_notRing _ _ _
    rw [State.takeWindow_estimator valid]
    exact congrArg₂ Estimator.mk (Estimator.window_ring_same (.inl kind) v) (Estimator.window_skip _ _ v)
  case held =>
    generalize h : s.redStep v = step at steps
    cases steps with
    | held =>
      refine (State.takeWindow_stays valid h).trans ?_
      rw [if_neg (by rw [supplyLost]; decide)]
    | _ => simp_all
  case moves =>
    generalize h : s.redStep v = step at steps
    cases steps with
    | held state => exact absurd state notLost
    | endsDip dip ended => exact absurd ⟨endedIff.1 ended, .inl dip⟩ goesOn
    | endsInterruption interrupted back ended =>
      exact absurd ⟨endedIff.1 ended, .inr ⟨interrupted, backIff.1 back⟩⟩ goesOn
    | interrupts dip _ below =>
      refine ⟨_, State.takeWindow_stays valid h, running, rfl, fun _ _ => ⟨rfl, ?_⟩, fun _ above => ?_, fun state => ?_,
        fun state => ?_⟩
      · exact congrArg some (enterInterruption_eq _ _)
      · exact absurd (lostIff.1 below) above
      all_goals exact nomatch dip.symm.trans state
    | staysDip dip _ above =>
      refine ⟨_, State.takeWindow_stays valid h, running, rfl, fun _ below => ?_, fun _ _ => ⟨dip, rfl⟩, fun state => ?_,
        fun state => ?_⟩
      · exact absurd (lostIff.2 below) above
      all_goals exact nomatch dip.symm.trans state
    | staysInterrupted interrupted absent =>
      refine ⟨_, State.takeWindow_stays valid h, running, rfl, fun state => ?_, fun state => ?_,
        fun _ _ => ⟨interrupted, rfl⟩, fun _ back => ?_⟩
      · exact nomatch interrupted.symm.trans state
      · exact nomatch interrupted.symm.trans state
      · exact absurd (backIff.2 back) absent
    | recovers interrupted back =>
      refine ⟨_, State.takeWindow_stays valid h, running, rfl, fun state => ?_, fun state => ?_, fun _ absent => ?_,
        fun _ _ => ⟨rfl, (if_pos interrupted).symm⟩⟩
      · exact nomatch interrupted.symm.trans state
      · exact nomatch interrupted.symm.trans state
      · exact absurd (backIff.1 back) absent
  case standing =>
    have stands : s.built v = (s.builder, none) :=
      RedStep.build_standing steps.not_opened (Bool.eq_false_iff.2 (mt closingIff.1 goesOn)) _ _ _ _
    refine ⟨by rw [State.takeWindow_builder valid, stands], fun swell gap => State.takeWindow_noRecord valid ?_⟩
    rw [State.windowRecords_built swell gap, stands]
    rfl
  case closed =>
    have closing := closingIff.2 h
    have built := State.built_closing isOpen closing
    refine ⟨?_, (r.closedBy set s.considered v).summary set v, running, ?_, fun alone => ⟨?_, fun swell gap => ?_⟩,
      fun member => ⟨?_, fun swell gap => ?_⟩⟩
    · rw [State.takeWindow_reduction valid, closing, if_pos rfl]
    · simp only [← r.closedBy_ref set s.considered v]
      rfl
    · rw [State.takeWindow_builder valid, built, Builder.summary_alone alone]
    · refine State.takeWindow_oneRecord valid ?_
      rw [State.windowRecords_built swell gap, built, Builder.summary_alone alone]
      rfl
    · rw [State.takeWindow_builder valid, built, Builder.summary_member member]
      rfl
    · refine State.takeWindow_noRecord valid ?_
      rw [State.windowRecords_built swell gap, built, Builder.summary_member member]
      rfl

end Sys2Proof.Machine
end

section
/-! O53: a valid window opens, goes on with or closes a swell, and ends a gap. -/

namespace Sys2Proof.Machine

open Sys2Proof

/-! ### The swell at a window (R50 to R52) -/

section
variable {s : State} {v : ValueSet} {w : Swell}

theorem State.swellStep_idle (idle : s.swell = none) (h : ¬ swellStart s.bank.inForce s.considered v.u v.clipped = true) :
    s.swellStep v = (none, none) := by
  rw [State.swellStep, idle, swellWindow, if_neg h]

theorem State.swellStep_opens (idle : s.swell = none) (h : swellStart s.bank.inForce s.considered v.u v.clipped = true) :
    s.swellStep v = (some (openSwell s.bank.inForce s.considered v s.tracker.setQuality), none) := by
  rw [State.swellStep, idle, swellWindow, if_pos h]

theorem State.swellStep_goesOn (isOpen : s.swell = some w) (h : ¬ swellEnd s.bank.inForce s.considered v.u v.clipped = true) :
    s.swellStep v = (some (w.running s.bank.inForce s.considered v), none) := by
  rw [State.swellStep, isOpen, swellWindow, if_neg h]

theorem State.swellStep_closes (isOpen : s.swell = some w) (h : swellEnd s.bank.inForce s.considered v.u v.clipped = true) :
    s.swellStep v =
      (none, some ((w.running s.bank.inForce s.considered v).record s.arrangement v.clock v.elapsed)) := by
  rw [State.swellStep, isOpen, swellWindow, if_pos h]
  rfl

end

theorem openSwell_phases (set : Settings) (c : PhaseSet) (v : ValueSet) (q : Quality) (f : Phase) :
    (openSwell set c v q).phases.has f = true ↔ c.has f = true ∧ set.ts < v.u f := by
  simp [openSwell]

/-- R51: phases above Ts join the phase set. -/
theorem Swell.running_phases (w : Swell) (set : Settings) (c : PhaseSet) (v : ValueSet) (f : Phase) :
    (w.running set c v).phases.has f = true ↔ w.phases.has f = true ∨ (c.has f = true ∧ set.ts < v.u f) := by
  simp [Swell.running]

/-- R51: a higher U½ becomes the maximum, with its lowest-lettered phase. -/
theorem Swell.running_maximum {c : PhaseSet} (ha : c.has .a = true) (w : Swell) (set : Settings) (v : ValueSet) :
    let x := w.running set c v
    w.maximum ≤ x.maximum ∧ (∀ f, c.has f = true → v.u f ≤ x.maximum)
      ∧ ((x.maximum = w.maximum ∧ x.maximumPhase = w.maximumPhase)
        ∨ (w.maximum < x.maximum ∧ c.has x.maximumPhase = true ∧ v.u x.maximumPhase = x.maximum
          ∧ ∀ f, c.has f = true → v.u f = x.maximum → x.maximumPhase.code ≤ f.code)) := by
  obtain ⟨has, here, greatest, first⟩ := highestOf_highestAt ha v.u
  unfold Swell.running
  dsimp only
  by_cases higher : w.maximum < (highestOf c v.u).1
  · rw [if_pos higher, if_pos higher]
    exact ⟨Nat.le_of_lt higher, greatest, .inr ⟨higher, has, here, first⟩⟩
  · rw [if_neg higher, if_neg higher]
    exact ⟨Nat.le_refl _, fun f hf => (greatest f hf).trans (Nat.le_of_not_lt higher), .inl ⟨rfl, rfl⟩⟩

/-- The window that releases a swell adds no phase to it and no clipped mark. -/
theorem Swell.running_released {set : Settings} {c : PhaseSet} {v : ValueSet} (clipped : v.clipped = false)
    (below : ∀ f, c.has f = true → v.u f ≤ set.ts) (w : Swell) :
    (w.running set c v).phases = w.phases ∧ (w.running set c v).clippedInside = w.clippedInside := by
  have none' : PhaseSet.where' (fun f => c.has f && decide (set.ts < v.u f)) = { a := false, b := false, c := false } := by
    have out : ∀ f, (c.has f && decide (set.ts < v.u f)) = false := fun f => by
      have := below f
      grind
    simp [PhaseSet.where', out]
  unfold Swell.running
  simp [none', clipped, PhaseSet.union]

/-! ### The records of a window beside the reduction -/

/-- Where no reduction is open and none opens, the builder stands, and the records are those of the gap and the swell. -/
theorem State.windowRecords_quiet {s : State} {v : ValueSet} (idle : s.reduction = none)
    (above : ∀ f, s.considered.has f = true → s.bank.inForce.td ≤ v.u f) :
    s.windowRecords v =
      ((s.gap.ending v.clock v.elapsed).map Record.gap).toList ++ ((s.swellStep v).2.map Record.swell).toList := by
  have none' : ¬ dipStart s.bank.inForce s.considered v.u = true := by
    rw [dipStart_iff]
    exact fun ⟨f, hf, below⟩ => Nat.not_le.2 below (above f hf)
  have step := State.redStep_idle idle none'
  have built : s.built v = (s.builder, none) := RedStep.build_standing (by rw [step]) (by rw [step]) _ _ _ _
  rw [State.windowRecords, built]
  simp

/-- Settles O53, by the ways of a swell at a window; the builder and the reduction make no record beside it. -/
theorem swellsAndGapsAtValidWindows : Obligations.SwellsAndGapsAtValidWindows := by
  intro s v valid consistent set t above below quiet closed
  have startIff : swellStart set s.considered v.u v.clipped = true ↔ above := swellStart_iff _ _ _ _
  have endIff : swellEnd set s.considered v.u v.clipped = true ↔ below := swellEnd_iff _ _ consistent _
  have swell : t.swell = _ := State.takeWindow_swell valid
  refine ⟨fun idle h => ?idle, fun idle h => ?opens, fun w isOpen h => ?goesOn, fun w isOpen h => ?closes,
    State.takeWindow_gap valid, fun ⟨noDip, high⟩ still => ?quiet⟩
  case idle => rw [swell, State.swellStep_idle idle (mt startIff.1 h)]
  case opens =>
    rw [State.swellStep_opens idle (startIff.2 h)] at swell
    obtain ⟨has, here, greatest, first⟩ := highestOf_highestAt s.considered_a v.u
    exact ⟨_, swell, rfl, has, here, fun f hf => ⟨greatest f hf, first f hf⟩, openSwell_phases _ _ _ _, rfl, rfl, rfl⟩
  case goesOn =>
    rw [State.swellStep_goesOn isOpen (mt endIff.1 h)] at swell
    obtain ⟨grows, greatest, -⟩ := w.running_maximum s.considered_a set v
    exact ⟨_, swell, rfl, grows, greatest, w.running_phases _ _ _, rfl, rfl, rfl⟩
  case closes =>
    have step := State.swellStep_closes isOpen (endIff.2 h)
    obtain ⟨clipped, low⟩ := h
    obtain ⟨phases, mark⟩ := w.running_released clipped fun f hf => (low f hf).trans (Nat.sub_le _ _)
    obtain ⟨-, greatest, maximum⟩ := w.running_maximum s.considered_a set v
    refine ⟨by rw [swell, step], _, congrArg Prod.snd step, ⟨?_, greatest, maximum⟩, fun ⟨noDip, high⟩ noGap => ?_⟩
    · rw [← phases, ← mark]
      rfl
    · refine State.takeWindow_oneRecord valid ?_
      rw [State.windowRecords_quiet noDip high, GapContext.ending_closed noGap, step]
      rfl
  case quiet =>
    have noSwell : (s.swellStep v).2 = none := by
      obtain idle | goesOn := still
      · exact State.swellStep_noRecord idle v
      · cases isOpen : s.swell with
        | none => exact State.swellStep_noRecord isOpen v
        | some w => rw [State.swellStep_goesOn isOpen (mt endIff.1 goesOn)]
    have records := State.windowRecords_quiet noDip high
    rw [noSwell] at records
    cases isOpen : s.gap.opened with
    | none =>
      rw [GapContext.ending_closed isOpen] at records
      obtain ⟨matrix, store⟩ := State.takeWindow_noRecord valid records
      exact ⟨matrix, fun _ => store, fun g h => nomatch h⟩
    | some g =>
      rw [GapContext.ending, isOpen] at records
      obtain ⟨matrix, store⟩ := State.takeWindow_oneRecord valid records
      refine ⟨matrix, (nomatch ·), fun g' h => ?_⟩
      cases h
      exact store

end Sys2Proof.Machine
end

section
/-! What becomes of records that are handed over, whatever order they are taken in: each is queued or counted, and where the
queue has room for all of them each is queued. -/

namespace Sys2Proof.Machine

open Sys2Proof

/-! ### The orders of pickOrder -/

/-- A free order takes every element. -/
theorem pickOrder_perm {α : Type} (pick : Nat → Nat) (n : Nat) (l : List α) : (pickOrder pick n l).Perm l := by
  induction n generalizing l with
  | zero => rfl
  | succ n ih =>
    cases l with
    | nil => rfl
    | cons x rest =>
      have inside : pick n % (rest.length + 1) < (x :: rest).length := Nat.mod_lt _ (Nat.succ_pos _)
      unfold pickOrder
      dsimp only
      rw [List.getD_eq_getElem _ _ inside]
      exact ((ih _).cons _).trans (List.getElem_cons_eraseIdx_perm inside)

/-- Records delivered at one moment are finalized one after another, in some order of theirs (log 7). -/
theorem State.deliver_order (s : State) (records : List Record) :
    ∃ (order : List Record) (x : State), order.Perm records ∧ x.store = s.store
      ∧ s.deliver records = order.foldl State.finalize x := by
  unfold State.deliver
  split
  · exact ⟨records, s, .refl _, rfl, rfl⟩
  · exact ⟨_, s.useFree, pickOrder_perm _ _ _, rfl, rfl⟩

/-! ### A record is queued or counted (R105, R111) -/

/-- `count` is the held-back count of a record's kind: holding the record back leaves it at least 1, and holding back any
other leaves it so. -/
structure CountsKind (count : HeldCounts → Nat) (r : Record) : Prop where
  own : ∀ c : HeldCounts, 1 ≤ count (c.add r)
  kept : ∀ (c : HeldCounts) (x : Record), 1 ≤ count c → 1 ≤ count (c.add x)

theorem one_le_bump16 (n : Nat) : 1 ≤ bump16 n := by
  unfold bump16 saturate max16
  omega

theorem CountsKind.restart (r : RestartRecord) : CountsKind HeldCounts.restart (.restart r) where
  own _ := one_le_bump16 _
  kept c x h := by
    cases x
    case restart => exact one_le_bump16 _
    all_goals exact h

theorem CountsKind.interval (r : IntervalRecord) : CountsKind HeldCounts.interval (.interval r) where
  own _ := one_le_bump16 _
  kept c x h := by
    cases x
    case interval => exact one_le_bump16 _
    all_goals exact h

/-- A record stands in the queue, or its kind is counted in the open episode. -/
def Store.Holds (t : Store) (count : HeldCounts → Nat) (r : Record) : Prop :=
  (∃ e ∈ t.queue, e.record = r) ∨ ∃ e, t.episode = some e ∧ 1 ≤ count e.counts

section
variable {count : HeldCounts → Nat} {r : Record}

theorem Store.take_holds (kind : CountsKind count r) (t : Store) (now : Stamp) : ((t.take now r).settle).Holds count r := by
  unfold Store.take
  split
  · exact .inl ⟨_, List.mem_append_right _ (List.mem_singleton.2 rfl), rfl⟩
  · exact .inr ⟨_, rfl, kind.own _⟩

/-- A record once held is held on as others are taken: the queue grows at its end, and with an episode open every record is
counted in it. -/
theorem Store.Holds.take {t : Store} (h : t.Holds count r) (kind : CountsKind count r) (now : Stamp) (x : Record) :
    ((t.take now x).settle).Holds count r := by
  obtain ⟨e, he, rfl⟩ | ⟨e, he, counted⟩ := h
  · obtain ⟨later, grows⟩ := (t.take_takes now x).grows
    exact .inl ⟨e, grows ▸ List.mem_append_left _ he, rfl⟩
  · have back : t.accepts = false := by simp [Store.accepts, he]
    rw [Store.take, back, if_neg Bool.false_ne_true]
    refine .inr ⟨_, rfl, ?_⟩
    rw [he]
    exact kind.kept _ _ counted

theorem State.finalizes_hold (kind : CountsKind count r) (records : List Record) (s : State)
    (h : s.store.Holds count r ∨ r ∈ records) : (records.foldl State.finalize s).store.Holds count r := by
  induction records generalizing s with
  | nil => exact h.resolve_right List.not_mem_nil
  | cons x rest ih =>
    refine ih _ ?_
    obtain held | new := h
    · exact .inl (held.take kind s.now x)
    · obtain rfl | later := List.mem_cons.1 new
      · exact .inl (s.store.take_holds kind s.now)
      · exact .inr later

theorem State.deliver_holds (kind : CountsKind count r) {records : List Record} {s : State}
    (h : s.store.Holds count r ∨ r ∈ records) : (s.deliver records).store.Holds count r := by
  obtain ⟨order, x, perm, store, delivered⟩ := s.deliver_order records
  rw [delivered]
  refine State.finalizes_hold kind order x ?_
  rwa [store, perm.mem_iff]

end

/-! ### Room for every record (R105) -/

/-- The store queues the next `k` records that are handed over. -/
structure Store.RoomFor (t : Store) (k : Nat) : Prop where
  normal : t.state = .normal
  noEpisode : t.episode = none
  queue : t.queue.length + k ≤ 6
  numbers : t.newest + t.queue.length + k ≤ max32

theorem Store.RoomFor.fewer {t : Store} {k n : Nat} (h : t.RoomFor n) (le : k ≤ n) : t.RoomFor k :=
  ⟨h.normal, h.noEpisode, (Nat.add_le_add_left le _).trans h.queue, (Nat.add_le_add_left le _).trans h.numbers⟩

theorem Store.RoomFor.takes {t : Store} {k : Nat} (h : t.RoomFor (k + 1)) (now : Stamp) (r : Record) :
    t.take now r = t.enqueue r := by
  obtain ⟨normal, episode, queue, numbers⟩ := h
  have room : t.hasRoom = true := by
    unfold Store.hasRoom Store.newestAssigned queueCapacity
    rw [Bool.and_eq_true, decide_eq_true_iff, decide_eq_true_iff]
    omega
  exact if_pos (by rw [Store.accepts, normal, episode, room]; rfl)

theorem Store.RoomFor.rest {t : Store} {k : Nat} (h : t.RoomFor (k + 1)) (now : Stamp) (r : Record) :
    ((t.take now r).settle).RoomFor k := by
  rw [h.takes]
  obtain ⟨normal, episode, queue, numbers⟩ := h
  refine ⟨normal, episode, ?_, ?_⟩ <;> simp [Store.enqueue] <;> omega

/-- Every record for which there is room is queued, behind the entries that waited. -/
theorem State.finalizes_queue {records : List Record} {s : State} (room : s.store.RoomFor records.length) {r : Record}
    (h : r ∈ records) :
    ∃ e ∈ (records.foldl State.finalize s).store.queue, e.record = r ∧ s.store.newestAssigned < e.number := by
  induction records generalizing s with
  | nil => exact absurd h List.not_mem_nil
  | cons x rest ih =>
    have queued : (s.finalize x).store = (s.store.enqueue x).settle := by
      rw [← room.takes s.now x]
      rfl
    have rest' : (s.finalize x).store.RoomFor rest.length := room.rest s.now x
    obtain rfl | later := List.mem_cons.1 h
    · obtain ⟨later, grows⟩ := (State.finalizes_recorded (s.finalize r) rest).store.grows
      refine ⟨{ number := s.store.newestAssigned + 1, record := r }, ?_, rfl, Nat.lt_succ_self _⟩
      rw [List.foldl_cons, grows, queued]
      exact List.mem_append_left _ (List.mem_append_right _ (List.mem_singleton.2 rfl))
    · obtain ⟨e, he, record, number⟩ := ih rest' later
      refine ⟨e, he, record, Nat.lt_of_le_of_lt ?_ number⟩
      rw [queued]
      simp [Store.newestAssigned, Store.enqueue]

theorem State.deliver_queue {records : List Record} {s : State} (room : s.store.RoomFor records.length) {r : Record}
    (h : r ∈ records) :
    ∃ e ∈ (s.deliver records).store.queue, e.record = r ∧ s.store.newestAssigned < e.number := by
  obtain ⟨order, x, perm, store, delivered⟩ := s.deliver_order records
  rw [delivered, ← store]
  exact State.finalizes_queue (by rwa [store, perm.length_eq]) (perm.mem_iff.2 h)

end Sys2Proof.Machine
end

section
/-! O38: the end of the scan takes a restart to measuring. What each stage of R135 leaves of the store, and what the last
leaves of every block. -/

namespace Sys2Proof.Machine

open Sys2Proof

/-! ### The scan's stage (R135 step 2) -/

/-- The GAP record of an episode is taken as any record is, but that it closes the episode (R112). -/
theorem Store.queueGap_takes (t : Store) : StoreTakes t t.queueGap := by
  unfold Store.queueGap
  split
  · exact .refl t
  · split
    · rename_i due
      have room : t.queue.length < queueCapacity := by simp_all [Store.gapDue, Store.hasRoom]
      exact ⟨rfl, fun _ => by simpa [Store.enqueue] using room, _, rfl⟩
    · exact .refl t

theorem Store.queueGap_noEpisode {t : Store} (h : t.episode = none) : t.queueGap = t := by
  rw [Store.queueGap, h]

theorem State.applyNewer_store (s : State) (found : List (Nat × List Changed)) : (s.applyNewer found).store = s.store := by
  rw [State.applyNewer_rest]

theorem State.restate_store (s : State) (changes : List Changed) :
    ∃ now r, (s.restate changes).store = (s.store.take now r).settle := ⟨_, _, rfl⟩

/-- The recovery of the settings takes at most one record, a restated SETTINGS record (R141). -/
theorem State.recoverSettings_store (s : State) (records : List Stored) :
    (s.recoverSettings records).store = s.store
      ∨ ∃ now r, (s.recoverSettings records).store = (s.store.take now r).settle := by
  unfold State.recoverSettings
  dsimp only
  split
  · split
    · exact .inl (State.applyNewer_store _ _)
    · obtain ⟨now, r, h⟩ := State.restate_store _ _
      exact .inr ⟨now, r, h.trans (by rw [State.applyNewer_store])⟩
  · exact .inl rfl

theorem State.recoverSettings_takes (s : State) (records : List Stored) :
    StoreTakes s.store (s.recoverSettings records).store := by
  obtain h | ⟨now, r, h⟩ := s.recoverSettings_store records
  · exact h ▸ .refl _
  · exact h ▸ Store.take_takes _ _ _

/-- After the recovery of the settings there is room for one record less (R105). -/
theorem State.recoverSettings_room {s : State} {k : Nat} (room : s.store.RoomFor (k + 1)) (records : List Stored) :
    (s.recoverSettings records).store.RoomFor k := by
  obtain h | ⟨now, r, h⟩ := s.recoverSettings_store records
  · exact h ▸ room.fewer (Nat.le_succ k)
  · exact h ▸ room.rest now r

/-- R120 leaves the write position known. -/
theorem State.settleEpoch_scanned (s : State) : s.settleEpoch.store.scanned = s.store.scanned := by
  unfold State.settleEpoch
  split
  · rfl
  · split
    · unfold State.endDrain
      split <;> rfl
    · split
      · unfold State.beginEpoch
        dsimp only
        split <;> rfl
      · split <;> rfl

/-- R120: a store that comes out NORMAL is as the scan left it. -/
theorem State.settleEpoch_normal {s : State} (h : s.settleEpoch.store.state = .normal) : s.settleEpoch = s := by
  unfold State.settleEpoch at h ⊢
  split at h
  · cases h
  · split at h
    · unfold State.endDrain at h
      split at h <;> cases h
    · split at h
      · cases h
      · split at h
        · cases h
        · simp_all

/-- The part as the scan's result is taken in (R118, R119, R121). -/
def State.scanTaken (s : State) (r : ScanResult) : State :=
  { s with store := (s.store.scannedAs r s.bank.areaAhead).matchQueue }

/-- The part as the settings are recovered: the epoch is settled, and at COLD the marks and the matrix are (R120, R134). -/
def State.epochSettled (s : State) (kind : RestartKind) (r : ScanResult) : State :=
  if kind = .cold then (s.scanTaken r).settleEpoch.recoverCold r else (s.scanTaken r).settleEpoch

/-- The part with the GAP record of an open episode queued (R112). -/
def State.gapQueued (s : State) : State := { s with store := s.store.queueGap }

theorem State.finishScan_eq (s : State) (kind : RestartKind) (r : ScanResult) :
    s.finishScan kind r = (s.epochSettled kind r).gapQueued.recoverSettings r.records := rfl

theorem State.epochSettled_store (s : State) (kind : RestartKind) (r : ScanResult) :
    (s.epochSettled kind r).store = (s.scanTaken r).settleEpoch.store := by
  unfold State.epochSettled
  split <;> rfl

/-- The scan's stage settles the epoch and then only takes records. -/
theorem State.finishScan_takes (s : State) (kind : RestartKind) (r : ScanResult) :
    StoreTakes (s.scanTaken r).settleEpoch.store (s.finishScan kind r).store := by
  rw [State.finishScan_eq, ← s.epochSettled_store kind r]
  exact (Store.queueGap_takes _).trans ((s.epochSettled kind r).gapQueued.recoverSettings_takes _)

theorem State.finishScan_scanned (s : State) (kind : RestartKind) (r : ScanResult) :
    (s.finishScan kind r).store.scanned = true := by
  rw [(s.finishScan_takes kind r).rest]
  exact State.settleEpoch_scanned _

/-- Except at COLD the ports' marks stand. -/
theorem State.finishScan_ports {kind : RestartKind} (warm : kind ≠ .cold) (s : State) (r : ScanResult) :
    (s.finishScan kind r).operator = s.operator ∧ (s.finishScan kind r).consumer = s.consumer := by
  rw [State.finishScan_eq, State.recoverSettings_rest, State.epochSettled, if_neg warm, State.settleEpoch_rest]
  exact ⟨rfl, rfl⟩

/-- A store that comes out of the scan's stage NORMAL, with no episode before it, has room for what the queue it met and one
restated SETTINGS record leave. -/
theorem State.finishScan_room {s : State} {kind : RestartKind} {r : ScanResult} {k : Nat}
    (normal : (s.finishScan kind r).store.state = .normal) (episode : s.store.episode = none)
    (queue : s.store.queue.length + (k + 1) ≤ 6)
    (numbers : (s.finishScan kind r).store.newest + s.store.queue.length + (k + 1) ≤ max32) :
    (s.finishScan kind r).store.RoomFor k := by
  have takes := s.finishScan_takes kind r
  have settled : (s.scanTaken r).settleEpoch = s.scanTaken r := by
    rw [takes.rest] at normal
    exact State.settleEpoch_normal normal
  rw [settled] at takes
  have newest : (s.finishScan kind r).store.newest = (s.scanTaken r).store.newest := by rw [takes.rest]
  have fewer : (s.scanTaken r).store.queue.length ≤ s.store.queue.length := List.length_filter_le _ _
  rw [newest] at numbers
  have room : (s.scanTaken r).store.RoomFor (k + 1) := ⟨rfl, episode, by omega, by omega⟩
  have unqueued : (s.epochSettled kind r).gapQueued.store = (s.scanTaken r).store := by
    have store : (s.epochSettled kind r).store = (s.scanTaken r).store := by rw [State.epochSettled_store, settled]
    have noEpisode : (s.epochSettled kind r).store.episode = none := by rw [store]; exact episode
    exact (Store.queueGap_noEpisode noEpisode).trans store
  exact State.recoverSettings_room (unqueued ▸ room) _

/-! ### Measuring starts (R135 step 6) -/

/-- The records handed over as measuring starts: the frozen interval's and an overdue burst's (R75, R98). -/
def State.startRecords (s : State) : List Record := s.frozenRecord ++ s.overdueBurst.2.toList

/-- The part as measuring starts, before those records are handed over (R48, R49, R98). -/
def State.measuringAgain (s : State) (kind : RestartKind) : State :=
  let t := { s with monitor := { s.monitor with
    state := .run, restart := none, outageNote := none,
    retentionValid := s.monitor.retentionValid || kind == RestartKind.cold } }
  { (t.resumeContexts kind).intervalRestart with builder := s.overdueBurst.1 }

theorem State.startMeasuring_eq (s : State) (kind : RestartKind) :
    s.startMeasuring kind = ((s.measuringAgain kind).deliver s.startRecords).finish := rfl

theorem State.startRecords_length (s : State) : s.startRecords.length ≤ 2 := by
  have frozen : s.frozenRecord.length ≤ 1 := by
    unfold State.frozenRecord
    split
    · exact Nat.zero_le _
    · exact s.intervalRecord_length _ _
  have burst : s.overdueBurst.2.toList.length ≤ 1 := by cases s.overdueBurst.2 <;> simp
  rw [State.startRecords, List.length_append]
  omega

theorem State.startMeasuring_takes (s : State) (kind : RestartKind) :
    StoreTakes s.store (s.startMeasuring kind).store :=
  ((s.measuringAgain kind).deliver_recorded s.startRecords).store.trans ⟨rfl, id, [], (List.append_nil _).symm⟩

theorem State.startMeasuring_holds {count : HeldCounts → Nat} {r : Record} (kind' : CountsKind count r) {s : State}
    (h : s.store.Holds count r ∨ r ∈ s.startRecords) (kind : RestartKind) :
    (s.startMeasuring kind).store.Holds count r :=
  State.deliver_holds (s := s.measuringAgain kind) kind' h

theorem State.startMeasuring_queue {s : State} (room : s.store.RoomFor 2) {r : Record} (h : r ∈ s.startRecords)
    (kind : RestartKind) :
    ∃ e ∈ (s.startMeasuring kind).store.queue, e.record = r ∧ s.store.newestAssigned < e.number :=
  State.deliver_queue (s := s.measuringAgain kind) (room.fewer s.startRecords_length) h

/-- The greatest boundary not later than a clock time does not move its next boundary (R88, R98). -/
theorem boundaryAfter_max (minutes clock : Nat) :
    boundaryAfter minutes (max clock (boundaryNotAfter minutes clock)) = boundaryAfter minutes clock := by
  rw [Nat.max_eq_left (show boundaryNotAfter minutes clock ≤ clock from Nat.div_mul_le_self _ _)]

/-- R98: the short interval, open from this moment, with flags read from the contexts. -/
theorem State.startMeasuring_aggregator (s : State) (kind : RestartKind) :
    let t := s.startMeasuring kind
    t.aggregator = {
      interval := some
        { start := s.now, minutes := s.bank.inForce.minutes, arrangement := s.arrangement, sums := .zero,
          flags := { eventOverlap := t.reduction.isSome || t.swell.isSome, gapInside := t.gap.opened.isSome,
                     supplyLost := false, timeAdjusted := false, short := true, afterCommit := false } },
      freeze := none, lastClosed := some (boundaryNotAfter s.bank.inForce.minutes s.clock),
      nextBoundary := boundaryAfter s.bank.inForce.minutes s.clock, skip := s.aggregator.skip } := by
  intro t
  have reduction : t.reduction = _ := congrArg State.reduction (s.startMeasuring_rest kind)
  have swell : t.swell = _ := congrArg State.swell (s.startMeasuring_rest kind)
  have gap : t.gap = _ := congrArg State.gap (s.startMeasuring_rest kind)
  rw [reduction, swell, gap, ← boundaryAfter_max]
  show (s.startMeasuring kind).aggregator = _
  rw [State.startMeasuring_eq, State.finish_aggregator, State.deliver_aggregator]
  rfl

theorem State.frozenRecord_of {s : State} {i : Interval} {z : Freeze} (hi : s.aggregator.interval = some i)
    (hz : s.aggregator.freeze = some z) :
    s.frozenRecord =
      [.interval (i.record z.clock z.elapsed s.tracker.nominal s.operator.mark s.consumer.mark)] := by
  rw [State.frozenRecord, hz]
  dsimp only
  rw [State.intervalRecord, hi]

/-! ### The whole restart -/

/-- The part with its RESTART record handed over, before measuring starts (R135 steps 2 to 5). -/
def State.restartRecorded (s : State) (kind : RestartKind) : State :=
  ((s.finishScan kind (Memory.scan s.store.array)).clearForStart).recordRestart kind (Memory.scan s.store.array)

theorem State.endScan_eq (s : State) (kind : RestartKind) : s.endScan kind = (s.restartRecorded kind).startMeasuring kind :=
  rfl

theorem State.restartRecorded_rest (s : State) (kind : RestartKind) :
    s.restartRecorded kind = { s with
      link := .restart, tracker := .restart s.tracker.nominal, engine := .restart, estimator := .restart,
      matrix := (s.restartRecorded kind).matrix, store := (s.restartRecorded kind).store,
      bank := (s.restartRecorded kind).bank.emptied, monitor := { s.monitor with lastKind := kind },
      operator := { s.operator.cleared with mark := (s.restartRecorded kind).operator.mark },
      consumer := { s.consumer.cleared with mark := (s.restartRecorded kind).consumer.mark },
      freeCount := (s.restartRecorded kind).freeCount } := by
  unfold State.restartRecorded
  rw [State.recordRestart_rest, State.clearForStart_rest, State.finishScan_rest]
  rfl

/-- The RESTART record is that of this moment (R137). -/
theorem State.restartRecorded_store (s : State) (kind : RestartKind) :
    (s.restartRecorded kind).store =
      ((s.finishScan kind (Memory.scan s.store.array)).store.take s.now
        (.restart (s.restartRecord kind (Memory.scan s.store.array)))).settle := by
  have monitor : (s.finishScan kind (Memory.scan s.store.array)).clearForStart.monitor = s.monitor := by
    rw [State.clearForStart_rest, State.finishScan_rest]
  unfold State.restartRecorded State.recordRestart State.handOver State.restartRecord State.now State.clock
  rw [monitor]
  rfl

/-- Except at COLD the marks stand. -/
theorem State.restartRecorded_marks {kind : RestartKind} (warm : kind ≠ .cold) (s : State) :
    (s.restartRecorded kind).operator.mark = s.operator.mark ∧ (s.restartRecorded kind).consumer.mark = s.consumer.mark := by
  obtain ⟨operator, consumer⟩ := State.finishScan_ports warm s (Memory.scan s.store.array)
  unfold State.restartRecorded
  rw [State.recordRestart_rest, State.clearForStart_rest, operator, consumer]
  exact ⟨rfl, rfl⟩

/-- What the end of a restart makes of each block beside the store, the matrix and the interval (R135). -/
theorem State.endScan_rest (s : State) (kind : RestartKind) :
    s.endScan kind = { s with
      link := .restart, tracker := .restart s.tracker.nominal, engine := .restart,
      reduction := s.reduction.map fun x => x.resumed kind, swell := s.swell.map fun x => x.resumed kind,
      gap := s.gap.resumed kind, estimator := .restart, builder := s.overdueBurst.1, matrix := (s.endScan kind).matrix,
      aggregator := (s.endScan kind).aggregator, store := (s.endScan kind).store,
      bank := (s.restartRecorded kind).bank.emptied,
      monitor := { s.monitor with
        state := .run, restart := none, outageNote := none, smallStepUsed := false, lastKind := kind,
        retentionValid := s.monitor.retentionValid || kind == RestartKind.cold },
      operator := { s.operator.cleared with
        mark := (s.endScan kind).operator.mark, attention := (s.endScan kind).operator.attention },
      consumer := { s.consumer.cleared with
        mark := (s.endScan kind).consumer.mark, attention := (s.endScan kind).consumer.attention },
      freeCount := (s.endScan kind).freeCount } := by
  rw [State.endScan_eq, State.startMeasuring_rest, State.restartRecorded_rest]
  rfl

theorem State.endScan_bank (s : State) (kind : RestartKind) : (s.endScan kind).bank = (s.restartRecorded kind).bank := by
  rw [State.endScan_eq, State.startMeasuring_rest]

theorem State.endScan_marks (s : State) (kind : RestartKind) :
    (s.endScan kind).operator.mark = (s.restartRecorded kind).operator.mark
      ∧ (s.endScan kind).consumer.mark = (s.restartRecorded kind).consumer.mark := by
  rw [State.endScan_eq, State.startMeasuring_rest]
  exact ⟨rfl, rfl⟩

theorem exec_restartScanEnd_under {s : State} {kind : RestartKind} (restarting : s.monitor.state = .restarting)
    (under : s.monitor.restart = some kind) : exec .restartScanEnd s = .next (s.endScan kind) := by
  show execRestartScanEnd s = _
  rw [execRestartScanEnd, if_pos restarting, under]

theorem exec_restartScanEnd_else {s : State} (h : s.monitor.state ≠ .restarting ∨ s.monitor.restart = none) :
    exec .restartScanEnd s = .next s := by
  show execRestartScanEnd s = _
  unfold execRestartScanEnd
  split
  · rename_i restarting
    rw [h.resolve_left fun ne => ne restarting]
  · rfl

/-- R48: the reduction leaves SUPPLY_LOST; R49: at LINE it carries gap inside. -/
theorem Reduction.resumed_eq {kind : RestartKind} (warm : kind ≠ .cold) (r : Reduction) :
    r.resumed kind = { r with
      state := if r.state = .supplyLost then .interrupted else r.state, gapInside := r.gapInside || kind == .line } := by
  obtain ⟨state, _, _, _, _, _, gap, _, _, _, _⟩ := r
  cases kind
  case cold => exact absurd rfl warm
  all_goals cases state <;> cases gap <;> rfl

theorem Swell.resumed_eq (w : Swell) (kind : RestartKind) :
    w.resumed kind = { w with gapInside := w.gapInside || kind == .line } := by
  obtain ⟨_, _, _, _, _, gap, _⟩ := w
  cases kind <;> cases gap <;> rfl

/-- R137: the marks are recovered where an INTERVAL record is stored. -/
theorem ScanResult.marks_isSome (r : ScanResult) : r.marks.isSome = r.records.any fun x => x.code == 4 := by
  rw [ScanResult.marks, Option.isSome_map, List.isSome_find?, List.any_reverse]

section
variable {s : State} {kind : RestartKind}

/-- The RESTART record is in the queue or counted (R105, R135 step 5). -/
theorem State.endScan_holdsRestart (s : State) (kind : RestartKind) :
    (s.endScan kind).store.Holds HeldCounts.restart (.restart (s.restartRecord kind (Memory.scan s.store.array))) := by
  have counts := CountsKind.restart (s.restartRecord kind (Memory.scan s.store.array))
  have held := Store.take_holds counts (s.finishScan kind (Memory.scan s.store.array)).store s.now
  rw [← s.restartRecorded_store kind] at held
  exact State.startMeasuring_holds counts (.inl held) kind

/-- The record of a frozen interval is among those handed over as measuring starts (R98). -/
theorem State.frozen_mem_startRecords {i : Interval} {z : Freeze} (warm : kind ≠ .cold)
    (hi : s.aggregator.interval = some i) (hz : s.aggregator.freeze = some z) :
    .interval (i.record z.clock z.elapsed s.tracker.nominal s.operator.mark s.consumer.mark)
      ∈ (s.restartRecorded kind).startRecords := by
  obtain ⟨operator, consumer⟩ := State.restartRecorded_marks warm s
  have aggregator : (s.restartRecorded kind).aggregator = s.aggregator := by rw [State.restartRecorded_rest]
  have nominal : (s.restartRecorded kind).tracker.nominal = s.tracker.nominal := by rw [State.restartRecorded_rest]; rfl
  refine List.mem_append_left _ ?_
  rw [State.frozenRecord_of (aggregator ▸ hi) (aggregator ▸ hz), operator, consumer, nominal]
  exact List.mem_singleton.2 rfl

/-- After the scan's stage the store only takes records. -/
theorem State.endScan_takes (s : State) (kind : RestartKind) :
    StoreTakes (s.finishScan kind (Memory.scan s.store.array)).store (s.endScan kind).store := by
  rw [State.endScan_eq]
  refine StoreTakes.trans ?_ (State.startMeasuring_takes _ kind)
  rw [State.restartRecorded_store]
  exact Store.take_takes _ _ _

/-- With the store NORMAL and no episode before, there is room after the scan's stage for `k` records fewer than the queue it
met leaves, one of them for a restated SETTINGS record. -/
theorem State.endScan_room (k : Nat) (normal : (s.endScan kind).store.state = .normal) (episode : s.store.episode = none)
    (queue : s.store.queue.length + (k + 1) ≤ 6)
    (numbers : (s.endScan kind).store.newest + s.store.queue.length + (k + 1) ≤ max32) :
    (s.finishScan kind (Memory.scan s.store.array)).store.RoomFor k := by
  rw [(s.endScan_takes kind).rest] at normal numbers
  exact State.finishScan_room normal episode queue numbers

/-- Where there is room for the RESTART record it is queued, and the records of step 6 come behind it. -/
theorem State.endScan_queuesRestart {k : Nat}
    (room : (s.finishScan kind (Memory.scan s.store.array)).store.RoomFor (k + 1)) :
    ∃ e ∈ (s.endScan kind).store.queue, e.record = .restart (s.restartRecord kind (Memory.scan s.store.array))
      ∧ e.number = (s.restartRecorded kind).store.newestAssigned := by
  obtain ⟨later, grows⟩ := ((s.restartRecorded kind).startMeasuring_takes kind).grows
  have store := s.restartRecorded_store kind
  rw [room.takes] at store
  rw [State.endScan_eq, grows, store]
  refine ⟨_, List.mem_append_left _ (List.mem_append_right _ (List.mem_singleton.2 rfl)), rfl, ?_⟩
  simp [Store.newestAssigned, Store.enqueue]
  omega

end

/-- Settles O38: each block by `State.endScan_rest`, and the records by the room that the queue has for them. -/
theorem restartEnds : Obligations.RestartEnds := by
  refine fun s => ⟨fun kind restarting under => ⟨s.endScan kind, exec_restartScanEnd_under restarting under, ?_⟩,
    exec_restartScanEnd_else⟩
  have rest := s.endScan_rest kind
  refine ⟨by rw [rest], by rw [rest]; rfl, by rw [rest]; rfl, by rw [rest]; rfl, by rw [rest], by rw [rest],
    by rw [rest]; rfl, fun p => ?ports, fun warm => ?marks, fun idle => by rw [rest, idle]; rfl,
    fun idle => by rw [rest, idle]; rfl, fun r isOpen warm => ?reduction, fun w isOpen => ?swell, ?interval, ?scanned,
    ?builder, ?records, State.finish_lineSound _ _, State.finish_lineSound _ _⟩
  case ports =>
    cases p
    · exact congrArg State.operator rest
    · exact congrArg State.consumer rest
  case marks =>
    obtain ⟨operator, consumer⟩ := s.endScan_marks kind
    rw [operator, consumer]
    exact State.restartRecorded_marks warm s
  case reduction =>
    rw [rest, isOpen, ← Reduction.resumed_eq warm]
    rfl
  case swell =>
    rw [rest, isOpen, ← Swell.resumed_eq]
    rfl
  case interval =>
    have recorded := s.restartRecorded_rest kind
    have now : (s.restartRecorded kind).now = s.now := by rw [recorded]; rfl
    have clock : (s.restartRecorded kind).clock = s.clock := by rw [recorded]; rfl
    have skip : (s.restartRecorded kind).aggregator.skip = s.aggregator.skip := by rw [recorded]
    refine (State.startMeasuring_aggregator (s.restartRecorded kind) kind).trans ?_
    rw [now, clock, skip, ← s.endScan_bank kind, ← s.endScan_eq kind, State.arrangement, ← s.endScan_bank kind]
    rfl
  case scanned =>
    rw [(s.endScan_takes kind).rest]
    exact s.finishScan_scanned kind _
  case builder =>
    rw [rest]
    dsimp only
    unfold State.overdueBurst
    split <;> rfl
  case records =>
    intro r record
    have made : s.restartRecord kind r = record := by
      unfold State.restartRecord
      rw [ScanResult.marks_isSome]
      cases kind <;> rfl
    refine ⟨made ▸ s.endScan_holdsRestart kind, fun normal episode queue numbers => ?queued,
      fun i z warm hi hz => ?frozen⟩
    case queued =>
      obtain ⟨e, he, is, -⟩ := State.endScan_queuesRestart (State.endScan_room (k := 1) normal episode (by omega) numbers)
      exact ⟨e, he, made ▸ is⟩
    case frozen =>
      intro closed
      have among := State.frozen_mem_startRecords warm hi hz
      refine ⟨State.startMeasuring_holds (.interval _) (.inr among) kind, fun normal episode queue numbers => ?_⟩
      have room := State.endScan_room (k := 3) normal episode (by omega) numbers
      obtain ⟨e, he, restart, number⟩ := State.endScan_queuesRestart room
      have room' : (s.restartRecorded kind).store.RoomFor 2 := by
        rw [State.restartRecorded_store]
        exact room.rest _ _
      obtain ⟨f, hf, interval, behind⟩ := State.startMeasuring_queue room' among kind
      exact ⟨e, he, f, hf, made ▸ restart, interval, number ▸ behind⟩

end Sys2Proof.Machine
end

section
/-! O14: the accumulators of the direction take a DIP window under R64's conditions and within R65's bounds. -/

namespace Sys2Proof.Machine

open Sys2Proof

/-! ### What one window makes of the direction fields (R64, R65) -/

section
variable {d : DirectionFields} {r : PowerRef} {v : ValueSet} {spanned : Bool}

/-- R64: whether a DIP window is to be added. -/
def DirectionFields.Takes (d : DirectionFields) (v : ValueSet) (spanned : Bool) : Prop :=
  v.tracker = .tracking ∧ v.clipped = false ∧ spanned = false ∧ d.frozen = false

/-- R65: the addition stays within the bounds of D and c. -/
def DirectionFields.HasRoom (d : DirectionFields) (r : PowerRef) (v : ValueSet) : Prop :=
  -140737488355328 ≤ d.sumD + (v.totalP - r.p) ∧ d.sumD + (v.totalP - r.p) ≤ 140737488355327 ∧ d.count + 1 ≤ 4294967295

theorem DirectionFields.hasRoom_iff :
    d.HasRoom r v ↔ dWithin (d.sumD + (v.totalP - r.p)) = true ∧ d.count < max32 := by
  simp only [HasRoom, dWithin, decide_eq_true_iff, max32]
  omega

theorem DirectionFields.accumulate_of_hasRoom (ref : d.ref = some r) (takes : d.Takes v spanned) (room : d.HasRoom r v) :
    d.accumulate v spanned = { d with sumD := d.sumD + (v.totalP - r.p), count := d.count + 1 } := by
  rw [accumulate, ref]
  exact (if_pos takes).trans (if_pos (hasRoom_iff.mp room))

theorem DirectionFields.accumulate_of_not_hasRoom (ref : d.ref = some r) (takes : d.Takes v spanned)
    (full : ¬ d.HasRoom r v) : d.accumulate v spanned = { d with frozen := true } := by
  rw [accumulate, ref]
  exact (if_pos takes).trans (if_neg (mt hasRoom_iff.mpr full))

theorem DirectionFields.accumulate_of_not_takes (h : d.ref = none ∨ ¬ d.Takes v spanned) : d.accumulate v spanned = d := by
  unfold accumulate
  split
  next => rfl
  next present => exact if_neg (h.resolve_left (by simp [present]))

/-- R65 keeps D and c in their bounds: an addition is made only with room for it, and nothing else moves them. -/
theorem DirectionFields.accumulate_bounds (low : -140737488355328 ≤ d.sumD) (high : d.sumD ≤ 140737488355327)
    (count : d.count ≤ 4294967295) :
    -140737488355328 ≤ (d.accumulate v spanned).sumD ∧ (d.accumulate v spanned).sumD ≤ 140737488355327
      ∧ (d.accumulate v spanned).count ≤ 4294967295 := by
  by_cases takes : d.Takes v spanned
  · cases ref : d.ref with
    | none =>
      rw [accumulate_of_not_takes (.inl ref)]
      exact ⟨low, high, count⟩
    | some r =>
      by_cases room : d.HasRoom r v
      · rw [accumulate_of_hasRoom ref takes room]
        exact room
      · rw [accumulate_of_not_hasRoom ref takes room]
        exact ⟨low, high, count⟩
  · rw [accumulate_of_not_takes (.inr takes)]
    exact ⟨low, high, count⟩

end

/-! ### Which windows are given to the accumulators (R60) -/

theorem RedStep.accumulated_dip (step : RedStep) (v : ValueSet) :
    step.accumulated .dip v = step.context.map fun r => { r with dir := r.dir.accumulate v r.spannedLoss } := rfl

theorem RedStep.accumulated_of_ne_dip {kind : WindowKind} (other : kind ≠ .dip) (step : RedStep) (v : ValueSet) :
    step.accumulated kind v = step.context := by
  simp [RedStep.accumulated, other]

/-- Settles O14. -/
theorem accumulatorsHoldTheirBounds : Obligations.AccumulatorsHoldTheirBounds := by
  intro d v spanned e
  refine ⟨fun r ref tracking unclipped unspanned unfrozen => ?taken, fun held => ?held,
    DirectionFields.accumulate_bounds, fun step kind => ⟨?dip, fun other => step.accumulated_of_ne_dip other v⟩⟩
  case taken =>
    have takes : d.Takes v spanned := ⟨tracking, unclipped, unspanned, unfrozen⟩
    exact ⟨DirectionFields.accumulate_of_hasRoom ref takes, DirectionFields.accumulate_of_not_hasRoom ref takes⟩
  case held =>
    refine DirectionFields.accumulate_of_not_takes (held.imp_right ?_)
    rintro failed ⟨tracking, unclipped, unspanned, unfrozen⟩
    simp [tracking, unclipped, unspanned, unfrozen] at failed
  case dip =>
    rintro rfl
    exact step.accumulated_dip v

end Sys2Proof.Machine
end

section
/-! O15: the metric is the truncated quotient held at ±30,000, and the verdict is read from it. -/

namespace Sys2Proof.Machine

open Sys2Proof

/-! ### The metric (R68) -/

section
variable {sumD : Int} {count sPre : Nat}

theorem metricOf_mem (sumD : Int) (count sPre : Nat) : -30000 ≤ metricOf sumD count sPre ∧ metricOf sumD count sPre ≤ 30000 :=
  clamp_mem (by decide)

/-- Truncation toward zero: the size of the metric is the quotient of the sizes, up to the clamp. -/
theorem natAbs_metricOf (sumD : Int) (count sPre : Nat) :
    (metricOf sumD count sPre).natAbs = min 30000 ((sumD * 10000).natAbs / (count * sPre)) := by
  have size : ((sumD * 10000).tdiv ((count * sPre : Nat) : Int)).natAbs = (sumD * 10000).natAbs / (count * sPre) :=
    Int.natAbs_tdiv _ _
  rw [metricOf, clamp, ← size]
  omega

/-- The metric changes sign with D. -/
theorem metricOf_neg (sumD : Int) (count sPre : Nat) : metricOf (-sumD) count sPre = -metricOf sumD count sPre := by
  rw [metricOf, metricOf, Int.neg_mul, Int.neg_tdiv, clamp, clamp]
  omega

theorem metricOf_nonneg (h : 0 ≤ sumD) : 0 ≤ metricOf sumD count sPre := by
  have quotient : 0 ≤ (sumD * 10000).tdiv ((count * sPre : Nat) : Int) := Int.tdiv_nonneg (by omega) (by omega)
  rw [metricOf, clamp]
  omega

theorem metricOf_nonpos (h : sumD ≤ 0) : metricOf sumD count sPre ≤ 0 := by
  have mirrored := metricOf_nonneg (sumD := -sumD) (count := count) (sPre := sPre) (by omega)
  rw [metricOf_neg] at mirrored
  omega

/-- A metric inside the clamp is the quotient truncated toward zero. -/
theorem metricOf_truncates (pos : 0 < count * sPre) (low : -30000 < metricOf sumD count sPre)
    (high : metricOf sumD count sPre < 30000) :
    (metricOf sumD count sPre).natAbs * (count * sPre) ≤ (sumD * 10000).natAbs
      ∧ (sumD * 10000).natAbs < ((metricOf sumD count sPre).natAbs + 1) * (count * sPre) := by
  have quotient : (metricOf sumD count sPre).natAbs = (sumD * 10000).natAbs / (count * sPre) := by
    have size := natAbs_metricOf sumD count sPre
    omega
  rw [quotient]
  exact ⟨Nat.div_mul_le_self _ _, (Nat.div_lt_iff_lt_mul pos).mp (Nat.lt_succ_self _)⟩

/-- The upper clamp is met exactly where the quotient is at least it. -/
theorem metricOf_top_iff (pos : 0 < count * sPre) (sumD : Int) :
    metricOf sumD count sPre = 30000 ↔ 30000 * ((count * sPre : Nat) : Int) ≤ sumD * 10000 := by
  by_cases sign : 0 ≤ sumD
  · have reached := Nat.le_div_iff_mul_le (x := 30000) (y := (sumD * 10000).natAbs) pos
    have size := natAbs_metricOf sumD count sPre
    have positive := metricOf_nonneg (count := count) (sPre := sPre) sign
    omega
  · have negative := metricOf_nonpos (sumD := sumD) (count := count) (sPre := sPre) (by omega)
    omega

theorem metricOf_bottom_iff (pos : 0 < count * sPre) (sumD : Int) :
    metricOf sumD count sPre = -30000 ↔ sumD * 10000 ≤ -(30000 * ((count * sPre : Nat) : Int)) := by
  have mirrored := metricOf_top_iff pos (-sumD)
  rw [metricOf_neg] at mirrored
  omega

end

/-! ### The reasons of R67, in their order -/

section
variable {d : DirectionFields} {r : PowerRef} {margin floor : Nat}

theorem judge_noReference (h : d.ref = none) :
    judge margin floor d = { verdict := .undetermined, reason := .noReference, metric := none } := by
  rw [judge, h]

theorem judge_lowLoad (ref : d.ref = some r) (low : r.s < floor) :
    judge margin floor d = { verdict := .undetermined, reason := .lowLoad, metric := none } := by
  rw [judge, ref]
  exact if_pos low

theorem judge_interruptedOnly (ref : d.ref = some r) (load : floor ≤ r.s) (uncounted : d.count = 0) :
    judge margin floor d = { verdict := .undetermined, reason := .interruptedOnly, metric := none } := by
  rw [judge, ref]
  exact (if_neg (Nat.not_lt.mpr load)).trans (if_pos uncounted)

/-- With references, load and a counted window the metric decides. -/
theorem judge_counted (ref : d.ref = some r) (load : floor ≤ r.s) (counted : 0 < d.count) :
    judge margin floor d =
      if (margin : Int) ≤ metricOf d.sumD d.count r.s then
        { verdict := .downstream, reason := .metric, metric := some (metricOf d.sumD d.count r.s) }
      else if metricOf d.sumD d.count r.s ≤ -(margin : Int) then
        { verdict := .upstream, reason := .metric, metric := some (metricOf d.sumD d.count r.s) }
      else { verdict := .undetermined, reason := .margin, metric := some (metricOf d.sumD d.count r.s) } := by
  rw [judge, ref]
  exact (if_neg (Nat.not_lt.mpr load)).trans (if_neg counted.ne')

theorem judge_metric (ref : d.ref = some r) (load : floor ≤ r.s) (counted : 0 < d.count) :
    (judge margin floor d).metric = some (metricOf d.sumD d.count r.s) := by
  rw [judge_counted ref load counted]
  split
  · rfl
  · split <;> rfl

/-- The metric at the margin or past it, on either side, gives the verdict of that side; a margin above 0 keeps the two
sides apart. -/
theorem judge_side (ref : d.ref = some r) (load : floor ≤ r.s) (counted : 0 < d.count) (apart : 0 < margin) :
    (((judge margin floor d).verdict = .downstream ∧ (judge margin floor d).reason = .metric) ↔
        (margin : Int) ≤ metricOf d.sumD d.count r.s)
      ∧ (((judge margin floor d).verdict = .upstream ∧ (judge margin floor d).reason = .metric) ↔
        metricOf d.sumD d.count r.s ≤ -(margin : Int))
      ∧ (((judge margin floor d).verdict = .undetermined ∧ (judge margin floor d).reason = .margin) ↔
        (-(margin : Int) < metricOf d.sumD d.count r.s ∧ metricOf d.sumD d.count r.s < margin)) := by
  rw [judge_counted ref load counted]
  split
  next downstream =>
    simp only [reduceCtorEq, and_self, false_and, true_iff, false_iff]
    omega
  next =>
    split
    next upstream =>
      simp only [reduceCtorEq, and_self, false_and, true_iff, false_iff]
      omega
    next between =>
      simp only [reduceCtorEq, and_self, true_iff, false_iff]
      omega

end

/-- Settles O15. -/
theorem verdictFollowsTheMetric : Obligations.VerdictFollowsTheMetric := by
  intro margin floor d
  refine ⟨judge_noReference, fun r => judge_lowLoad, fun r => judge_interruptedOnly,
    fun r ref load counted apparent apart => ⟨metricOf d.sumD d.count r.s, judge_metric ref load counted,
      (metricOf_mem _ _ _).1, (metricOf_mem _ _ _).2, ?_⟩⟩
  have pos : 0 < d.count * r.s := Nat.mul_pos counted apparent
  exact ⟨metricOf_truncates pos, metricOf_top_iff pos _, metricOf_bottom_iff pos _, metricOf_nonneg, metricOf_nonpos,
    judge_side ref load counted apart⟩

end Sys2Proof.Machine
end

section
/-! O16: the cells of the matrix. Which cell a record falls in, which member of a BURST is its worst, and what counting a
record does to the cells. -/

namespace Sys2Proof.Machine

open Sys2Proof

/-! ### Rows and columns (R80, R81) -/

theorem reductionRow_lt (interrupted : Bool) (residual : Nat) : reductionRow interrupted residual < 5 := by
  unfold reductionRow
  split_ifs <;> decide

theorem reductionRow_eq_four_iff (interrupted : Bool) (residual : Nat) :
    reductionRow interrupted residual = 4 ↔ interrupted = true := by
  unfold reductionRow
  split_ifs with h <;> simp [h]

/-- R-a to R-d by the residual, where there is no interruption part. -/
theorem reductionRow_uninterrupted (residual : Nat) :
    (reductionRow false residual = 0 ↔ 8500 ≤ residual)
      ∧ (reductionRow false residual = 1 ↔ 7000 ≤ residual ∧ residual ≤ 8499)
      ∧ (reductionRow false residual = 2 ↔ 5000 ≤ residual ∧ residual ≤ 6999)
      ∧ (reductionRow false residual = 3 ↔ residual < 5000) := by
  generalize is : reductionRow false residual = row
  rw [reductionRow, if_neg Bool.false_ne_true] at is
  split_ifs at is <;> omega

theorem reductionColumn_lt (duration : Nat) : reductionColumn duration < 5 := by
  unfold reductionColumn
  split_ifs <;> decide

theorem reductionColumn_iff (duration : Nat) :
    (reductionColumn duration = 0 ↔ duration < 100)
      ∧ (reductionColumn duration = 1 ↔ 100 ≤ duration ∧ duration < 400)
      ∧ (reductionColumn duration = 2 ↔ 400 ≤ duration ∧ duration < 2000)
      ∧ (reductionColumn duration = 3 ↔ 2000 ≤ duration ∧ duration < 20000)
      ∧ (reductionColumn duration = 4 ↔ 20000 ≤ duration) := by
  generalize is : reductionColumn duration = column
  unfold reductionColumn at is
  split_ifs at is <;> omega

theorem reductionCell_lt (interrupted : Bool) (residual duration : Nat) :
    reductionCell interrupted residual duration < 31 := by
  have row := reductionRow_lt interrupted residual
  have column := reductionColumn_lt duration
  unfold reductionCell
  omega

/-- The row and the column of a swell (R81). -/
theorem swellCell_table (maximum duration : Nat) : ∃ row column,
    swellCell maximum duration = 25 + 3 * row + column ∧ row < 2 ∧ column < 3
      ∧ (row = 0 ↔ 13000 ≤ maximum) ∧ (column = 0 ↔ duration < 400)
      ∧ (column = 1 ↔ 400 ≤ duration ∧ duration < 2000) ∧ (column = 2 ↔ 2000 ≤ duration) := by
  refine ⟨_, _, rfl, ?_⟩
  generalize ofMaximum : (if 13000 ≤ maximum then 0 else 1) = row
  generalize ofDuration : (if duration < 400 then 0 else if duration < 2000 then 1 else 2) = column
  split_ifs at ofMaximum ofDuration <;> omega

/-- Every cell that a record falls in is one of the 31. -/
theorem Record.cell_lt {r : Record} {i : Nat} (h : r.cell = some i) : i < 31 := by
  cases r with
  | reduction x => exact Option.some.inj h ▸ reductionCell_lt _ _ _
  | swell x =>
    obtain ⟨row, column, cell, hr, hc, -⟩ := swellCell_table x.maximum x.duration
    have : i = 25 + 3 * row + column := (Option.some.inj h).symm.trans cell
    omega
  | burst members =>
    cases members with
    | nil => cases h
    | cons first rest => exact Option.some.inj h ▸ reductionCell_lt _ _ _
  | _ => cases h

/-! ### The worst member of a BURST (R77) -/

/-- `w` is the worst of the members with its position counted from 1: the earliest of those with the lowest residual. -/
def IsWorst (members : List Summary) (w : Nat × Summary) : Prop :=
  ∃ earlier later, members = earlier ++ w.2 :: later ∧ w.1 = earlier.length + 1
    ∧ (∀ m ∈ earlier, w.2.residual < m.residual) ∧ ∀ m ∈ later, w.2.residual ≤ m.residual

theorem isWorst_singleton (m : Summary) : IsWorst [m] (1, m) :=
  ⟨[], [], rfl, rfl, fun _ h => absurd h List.not_mem_nil, fun _ h => absurd h List.not_mem_nil⟩

/-- One more member is the worst exactly when its residual is lower than that of the worst before it. -/
theorem IsWorst.next {seen : List Summary} {w : Nat × Summary} (h : IsWorst seen w) (m : Summary) :
    IsWorst (seen ++ [m]) (if m.residual < w.2.residual then (seen.length + 1, m) else w) := by
  obtain ⟨earlier, later, split, position, above, below⟩ := h
  by_cases lower : m.residual < w.2.residual
  · rw [if_pos lower]
    refine ⟨seen, [], rfl, rfl, fun x hx => ?_, fun _ h => absurd h List.not_mem_nil⟩
    rw [split] at hx
    obtain hx | hx := List.mem_append.1 hx
    · exact lower.trans (above x hx)
    · obtain rfl | hx := List.mem_cons.1 hx
      · exact lower
      · exact lower.trans_le (below x hx)
  · rw [if_neg lower]
    refine ⟨earlier, later ++ [m], by rw [split]; simp, position, above, fun x hx => ?_⟩
    obtain hx | hx := List.mem_append.1 hx
    · exact below x hx
    · exact List.mem_singleton.1 hx ▸ Nat.not_lt.1 lower

theorem worstFrom_isWorst (rest : List Summary) {seen : List Summary} {w : Nat × Summary} (h : IsWorst seen w) :
    IsWorst (seen ++ rest) (worstFrom (seen.length + 1) w rest) := by
  induction rest generalizing seen w with
  | nil => rwa [List.append_nil]
  | cons m rest ih =>
    have taken := ih (h.next m)
    rwa [List.append_assoc, List.length_append] at taken

theorem worstMember_isWorst (first : Summary) (rest : List Summary) : IsWorst (first :: rest) (worstMember first rest) :=
  worstFrom_isWorst rest (isWorst_singleton first)

/-! ### Counting (R82) -/

theorem bumpCell_getElem? (cells : List Nat) (i j : Nat) :
    (bumpCell cells i)[j]? = if i = j then cells[j]?.map fun n => min max32 (n + 1) else cells[j]? := by
  unfold bumpCell
  rw [List.getElem?_modify]
  split_ifs <;> simp [saturate]

theorem countRecord_cell {r : Record} {i : Nat} (h : r.cell = some i) (cells : List Nat) :
    countRecord cells r = bumpCell cells i := by
  rw [countRecord, h]

theorem countRecord_noCell {r : Record} (h : r.cell = none) (cells : List Nat) : countRecord cells r = cells := by
  rw [countRecord, h]

/-- Settles O16. -/
theorem finalizedRecordsCountOnce : Obligations.FinalizedRecordsCountOnce := by
  intro cells r width
  refine ⟨?counted, fun x => ?reduction, fun x => ?swell, fun first rest => ?burst,
    fun i g x t w e => ⟨rfl, rfl, rfl, rfl, rfl, rfl⟩⟩
  case counted =>
    split
    next none => exact countRecord_noCell none cells
    next i cell =>
      rw [countRecord_cell cell]
      refine ⟨Record.cell_lt cell, by simpa [bumpCell] using width, fun j ne => ?_, fun n at' => ?_⟩
      · rw [bumpCell_getElem?, if_neg (Ne.symm ne)]
      · rw [bumpCell_getElem?, if_pos rfl, at']
        rfl
  case reduction =>
    obtain ⟨c0, c1, c2, c3, c4⟩ := reductionColumn_iff x.duration
    refine ⟨_, _, rfl, reductionRow_lt _ _, reductionColumn_lt _, reductionRow_eq_four_iff _ _, fun none => ?_,
      c0, c1, c2, c3, c4⟩
    rw [none]
    exact reductionRow_uninterrupted x.residual
  case swell =>
    obtain ⟨row, column, cell, table⟩ := swellCell_table x.maximum x.duration
    exact ⟨row, column, congrArg some cell, table⟩
  case burst =>
    obtain ⟨earlier, later, split, -, above, below⟩ := worstMember_isWorst first rest
    exact ⟨earlier, (worstMember first rest).2, later, split, above, below, rfl⟩

end Sys2Proof.Machine
end

section
/-! Fields of bytes laid out one after another: where a field stands behind or before other bytes, and among parts of one
length. -/

namespace Sys2Proof.Machine

open Sys2Proof

theorem fieldAt_behind {before : List Byte} {k : Nat} (h : before.length ≤ k) (bytes : List Byte) (w : Nat) :
    fieldAt (before ++ bytes) k w = fieldAt bytes (k - before.length) w := by
  rw [fieldAt, List.drop_append, List.drop_eq_nil_of_le h, List.nil_append, fieldAt]

theorem fieldAt_past {k : Nat} (h : 1 ≤ k) (b : Byte) (bytes : List Byte) (w : Nat) :
    fieldAt (b :: bytes) k w = fieldAt bytes (k - 1) w := fieldAt_behind (before := [b]) h bytes w

theorem fieldAt_within {bytes : List Byte} {k w : Nat} (h : k + w ≤ bytes.length) (after : List Byte) :
    fieldAt (bytes ++ after) k w = fieldAt bytes k w := by
  rw [fieldAt, List.drop_append_of_le_length (by omega), List.take_append_of_le_length (by rw [List.length_drop]; omega),
    fieldAt]

theorem byteAt_behind {before : List Byte} {k : Nat} (h : before.length ≤ k) (bytes : List Byte) :
    byteAt (before ++ bytes) k = byteAt bytes (k - before.length) := by
  rw [byteAt, List.getD_eq_getElem?_getD, List.getElem?_append_right h, ← List.getD_eq_getElem?_getD, byteAt]

theorem byteAt_within {bytes : List Byte} {k : Nat} (h : k < bytes.length) (after : List Byte) :
    byteAt (bytes ++ after) k = byteAt bytes k := by
  rw [byteAt, List.getD_eq_getElem?_getD, List.getElem?_append_left h, ← List.getD_eq_getElem?_getD, byteAt]

theorem fieldAt_alone (w n : Nat) : fieldAt (leBytes w n) 0 w = n % 256 ^ w := by
  simpa using fieldAt_head [] w n

theorem bitAt_eq (k : Nat) (b : Bool) : bitAt k b = 2 ^ k * b.toNat := by
  cases b <;> simp [bitAt]

/-- A field of one byte is the byte. -/
theorem fieldAt_one (bytes : List Byte) (k : Nat) : fieldAt bytes k 1 = (byteAt bytes k).toNat := by
  unfold fieldAt byteAt
  cases h : bytes.drop k with
  | nil => simp [fromLe, List.getElem?_eq_none (List.drop_eq_nil_iff.1 h)]
  | cons b rest =>
    have : bytes[k]? = some b := by rw [← List.head?_drop, h]; rfl
    simp [fromLe, this]

section
variable {α : Type} {part : α → List Byte} {width : Nat}

/-- Parts of one length: those from the `i`-th on begin after `i` lengths. -/
theorem drop_flatMap (each : ∀ x, (part x).length = width) (l : List α) (i : Nat) :
    (l.flatMap part).drop (width * i) = (l.drop i).flatMap part := by
  induction i generalizing l with
  | zero => rfl
  | succ i ih =>
    cases l with
    | nil => simp
    | cons x rest =>
      rw [Nat.mul_succ, Nat.add_comm, ← List.drop_drop, List.flatMap_cons, ← each x, List.drop_left, each x, ih,
        List.drop_succ_cons]

theorem length_flatMap_parts (each : ∀ x, (part x).length = width) (l : List α) :
    (l.flatMap part).length = width * l.length := by
  induction l with
  | nil => rfl
  | cons x rest ih => rw [List.flatMap_cons, List.length_append, each, ih, List.length_cons, Nat.mul_succ, Nat.add_comm]

/-- A field of the `i`-th of parts of one length. -/
theorem fieldAt_flatMap (each : ∀ x, (part x).length = width) {l : List α} {i : Nat} {x : α} (at' : l[i]? = some x)
    {k w : Nat} (inside : k + w ≤ width) : fieldAt (l.flatMap part) (width * i + k) w = fieldAt (part x) k w := by
  have here : l.drop i = x :: l.drop (i + 1) := by
    obtain ⟨lt, rfl⟩ := List.getElem?_eq_some_iff.1 at'
    exact List.drop_eq_getElem_cons lt
  rw [fieldAt, ← List.drop_drop, drop_flatMap each, here, List.flatMap_cons, ← fieldAt,
    fieldAt_within (by rw [each]; exact inside)]

end

end Sys2Proof.Machine
end

section
/-! O17: the rebuild reads from a stored record the fields by which it was counted, and sums the records of each cell. -/

namespace Sys2Proof.Machine

open Sys2Proof

/-! ### A record's header and body (R172) -/

theorem burstSlots_bounds (n : Nat) : 3 ≤ burstSlots n ∧ burstSlots n ≤ 4 := by
  unfold burstSlots
  split <;> decide

theorem Record.slots_pos (r : Record) : 1 ≤ r.slots := by
  cases r with
  | burst members => exact (by decide : 1 ≤ 3).trans (burstSlots_bounds _).1
  | settings x => exact Nat.le_add_right _ _
  | _ => exact Nat.le_of_ble_eq_true rfl

theorem Record.slots_le {r : Record} (h : r.fits) : r.slots ≤ 4 := by
  cases r with
  | burst members => exact (burstSlots_bounds _).2
  | settings x =>
    obtain ⟨-, few⟩ := h
    show 1 + (x.changes.length + 2) / 3 ≤ 4
    omega
  | _ => exact Nat.le_of_ble_eq_true rfl

theorem Record.kindCode_le (r : Record) : r.kindCode ≤ 11 := by
  cases r with
  | restart x => cases x with | mk kind => cases kind <;> exact Nat.le_of_ble_eq_true rfl
  | _ => exact Nat.le_of_ble_eq_true rfl

/-- A record in the form in which the array holds it. -/
def Record.stored (r : Record) (number : Nat) (chain : Chain) : Stored :=
  { number := number, chain := chain, bytes := r.bytes number chain }

/-- The kind code reads back. -/
theorem Record.stored_code {r : Record} (h : r.fits) (number : Nat) (chain : Chain) :
    (r.stored number chain).code = r.kindCode := by
  have kind := r.kindCode_le
  have pos := r.slots_pos
  have slots := Record.slots_le h
  show (BitVec.ofNat 8 _).toNat / 16 = _
  have quality := r.quality.bit.toNat_le
  have bit := r.kindBit.toNat_le
  rw [BitVec.toNat_ofNat, bitAt_eq, bitAt_eq]
  omega

/-- The nine bytes before the body. -/
def Record.header (r : Record) (number : Nat) (chain : Chain) : List Byte :=
  [r.firstByte] ++ leBytes 4 number ++ leBytes 4 chain.toNat

theorem Record.header_length (r : Record) (number : Nat) (chain : Chain) : (r.header number chain).length = 9 := by
  simp [Record.header]

theorem Record.stored_bytes (r : Record) (number : Nat) (chain : Chain) : ∃ fill,
    (r.stored number chain).bytes = r.header number chain ++ (r.body ++ fill) :=
  ⟨_, List.append_assoc _ _ _⟩

/-- A field of the body reads back from the record. -/
theorem Record.stored_field (r : Record) (number : Nat) (chain : Chain) {k w : Nat} (h : k + w ≤ r.body.length) :
    fieldAt (r.stored number chain).bytes (9 + k) w = fieldAt r.body k w := by
  obtain ⟨fill, bytes⟩ := r.stored_bytes number chain
  rw [bytes, fieldAt_behind (by rw [Record.header_length]; omega), Record.header_length, Nat.add_sub_cancel_left,
    fieldAt_within h]

theorem Record.stored_byte (r : Record) (number : Nat) (chain : Chain) {k : Nat} (h : k < r.body.length) :
    byteAt (r.stored number chain).bytes (9 + k) = byteAt r.body k := by
  obtain ⟨fill, bytes⟩ := r.stored_bytes number chain
  rw [bytes, byteAt_behind (by rw [Record.header_length]; omega), Record.header_length, Nat.add_sub_cancel_left,
    byteAt_within h]

/-! ### The fields by which a record is counted (R173) -/

theorem reductionBody_length (x : Summary) : (reductionBody x).length = 49 := by simp [reductionBody]

theorem reductionBody_duration (x : Summary) : fieldAt (reductionBody x) 18 4 = x.duration % 256 ^ 4 := by
  simp [reductionBody, fieldAt_behind, fieldAt_head]

theorem reductionBody_residual (x : Summary) : fieldAt (reductionBody x) 22 2 = x.residual % 256 ^ 2 := by
  simp [reductionBody, fieldAt_behind, fieldAt_head]

theorem reductionBody_flags (x : Summary) : byteAt (reductionBody x) 25 = x.flagsByte := by
  simp [reductionBody, byteAt_behind]
  rfl

/-- Bit 5 of a REDUCTION's flags says that the interruption part is present. -/
theorem Summary.flagsByte_interruption (x : Summary) : x.flagsByte.getLsbD 5 = x.interruption.isSome := by
  have b0 := x.gapInside.toNat_le
  have b1 := x.clippedInside.toNat_le
  have b2 := x.spannedLoss.toNat_le
  have b3 := x.startedAtLoss.toNat_le
  have b4 := x.saturated.toNat_le
  have b6 := x.metric.isSome.toNat_le
  rw [Summary.flagsByte, packed, BitVec.getLsbD_ofNat, Nat.testBit_eq_decide_div_mod_eq]
  simp only [bitAt_eq]
  cases x.interruption.isSome <;> simp <;> omega

theorem swellBody_length (x : SwellRecord) : (swellBody x).length = 23 := by simp [swellBody]

theorem swellBody_duration (x : SwellRecord) : fieldAt (swellBody x) 12 4 = x.duration % 256 ^ 4 := by
  simp [swellBody, fieldAt_behind, fieldAt_head]

theorem swellBody_maximum (x : SwellRecord) : fieldAt (swellBody x) 19 2 = x.maximum % 256 ^ 2 := by
  simp [swellBody, fieldAt_behind, fieldAt_head]

@[simp] theorem memberBytes_length (start : Nat) (m : Summary) : (memberBytes start m).length = 11 := by
  simp [memberBytes]

theorem burstBody_length (first : Summary) (rest : List Summary) :
    (burstBody (first :: rest)).length = 27 + 11 * (rest.length + 1) := by
  simp only [burstBody, List.length_append, length_flatMap_parts (memberBytes_length first.start.elapsed)]
  simp

theorem burstBody_span (first : Summary) (rest : List Summary) :
    fieldAt (burstBody (first :: rest)) 18 4 = saturate max32 (spanOf first rest) % 256 ^ 4 := by
  simp [burstBody, fieldAt_behind, fieldAt_head]

/-- The worst member's position stands in bits 7 to 4 of the count byte. -/
theorem burstBody_worst {first : Summary} {rest : List Summary} (few : rest.length + 1 ≤ 8)
    (position : (worstMember first rest).1 ≤ 8) :
    (byteAt (burstBody (first :: rest)) 25).toNat / 16 = (worstMember first rest).1 := by
  have here : byteAt (burstBody (first :: rest)) 25 = packed (rest.length + 1 + 16 * (worstMember first rest).1) := by
    simp [burstBody, byteAt_behind]
    rfl
  rw [here, packed, BitVec.toNat_ofNat]
  omega

/-- The number in a member's packed field (R173). -/
def memberField (m : Summary) : Nat :=
  m.residual + 2 ^ 15 * m.residualPhase.code + bitAt 17 m.interruption.isSome + 2 ^ 18 * m.verdict.code

theorem memberField_bounds {m : Summary} (h : m.residual < 2 ^ 15) :
    memberField m < 256 ^ 3 ∧ memberField m % 2 ^ 15 = m.residual ∧ (memberField m).testBit 17 = m.interruption.isSome := by
  have phase : m.residualPhase.code ≤ 2 := by cases m.residualPhase <;> decide
  have verdict : m.verdict.code ≤ 2 := by cases m.verdict <;> decide
  unfold memberField
  rw [Nat.testBit_eq_decide_div_mod_eq, bitAt_eq]
  cases m.interruption.isSome <;> simp <;> omega

/-- The members stand behind the 27 bytes of a BURST's own figures. -/
theorem burstBody_members (first : Summary) (rest : List Summary) : ∃ before : List Byte, before.length = 27
    ∧ burstBody (first :: rest) = before ++ (first :: rest).flatMap (memberBytes first.start.elapsed) :=
  ⟨_, by simp, rfl⟩

/-- The packed field of the `i`-th member. -/
theorem burstBody_member {first : Summary} {rest : List Summary} {i : Nat} {m : Summary} (at' : (first :: rest)[i]? = some m) :
    fieldAt (burstBody (first :: rest)) (27 + (11 * i + 8)) 3 = memberField m % 256 ^ 3 := by
  have packed : fieldAt (memberBytes first.start.elapsed m) 8 3 = memberField m % 256 ^ 3 := by
    simp [memberBytes, fieldAt_behind, fieldAt_alone, memberField]
  rw [← packed, ← fieldAt_flatMap (memberBytes_length first.start.elapsed) at' (by decide)]
  obtain ⟨before, length, body⟩ := burstBody_members first rest
  rw [body, fieldAt_behind (by omega), length, Nat.add_sub_cancel_left]

/-! ### The cell read back (R84) -/

section
variable (number : Nat) (chain : Chain)

theorem Record.reduction_stored_cell {x : Summary} (h : (Record.reduction x).fits) :
    ((Record.reduction x).stored number chain).cell = (Record.reduction x).cell := by
  have code : _ = 1 := Record.stored_code h number chain
  have length : (Record.reduction x).body.length = 49 := reductionBody_length x
  have residual := (Record.stored_field (.reduction x) number chain (k := 22) (w := 2) (by omega)).trans
    (reductionBody_residual x)
  have duration := (Record.stored_field (.reduction x) number chain (k := 18) (w := 4) (by omega)).trans (reductionBody_duration x)
  have flags := (Record.stored_byte (.reduction x) number chain (k := 25) (by omega)).trans (reductionBody_flags x)
  obtain ⟨residualFits, durationFits⟩ : x.residual < 256 ^ 2 ∧ x.duration < 256 ^ 4 := ⟨h.1, Nat.lt_succ_of_le h.2⟩
  rw [Nat.mod_eq_of_lt residualFits] at residual
  rw [Nat.mod_eq_of_lt durationFits] at duration
  simp only [Stored.cell, code, residual, duration, flags, Summary.flagsByte_interruption, Record.cell]

theorem Record.swell_stored_cell {x : SwellRecord} (h : (Record.swell x).fits) :
    ((Record.swell x).stored number chain).cell = (Record.swell x).cell := by
  have code : _ = 2 := Record.stored_code h number chain
  have length : (Record.swell x).body.length = 23 := swellBody_length x
  have maximum := (Record.stored_field (.swell x) number chain (k := 19) (w := 2) (by omega)).trans (swellBody_maximum x)
  have duration := (Record.stored_field (.swell x) number chain (k := 12) (w := 4) (by omega)).trans (swellBody_duration x)
  obtain ⟨maximumFits, durationFits⟩ : x.maximum < 256 ^ 2 ∧ x.duration < 256 ^ 4 := ⟨h.1, Nat.lt_succ_of_le h.2⟩
  rw [Nat.mod_eq_of_lt maximumFits] at maximum
  rw [Nat.mod_eq_of_lt durationFits] at duration
  simp only [Stored.cell, code, maximum, duration, Record.cell]

/-- A BURST is read back by the member whose position its count byte gives. -/
theorem Record.burst_stored_cell {first : Summary} {rest : List Summary} (h : (Record.burst (first :: rest)).fits) :
    ((Record.burst (first :: rest)).stored number chain).cell = (Record.burst (first :: rest)).cell := by
  have code : _ = 3 := Record.stored_code h number chain
  have length : (Record.burst (first :: rest)).body.length = 27 + 11 * (rest.length + 1) := burstBody_length first rest
  obtain ⟨-, few, fits⟩ := h
  rw [List.length_cons] at few
  obtain ⟨earlier, later, split, position, -, -⟩ := worstMember_isWorst first rest
  have inside : earlier.length < rest.length + 1 := by
    have := congrArg List.length split
    simp at this
    omega
  have at' : (first :: rest)[earlier.length]? = some (worstMember first rest).2 := by rw [split]; simp
  obtain ⟨width, residual, interruption⟩ := memberField_bounds (fits _ (List.mem_of_getElem? at'))
  have worst := burstBody_worst (first := first) few (by omega)
  have count := Record.stored_byte (.burst (first :: rest)) number chain (k := 25) (by omega)
  have spanFits : saturate max32 (spanOf first rest) < 256 ^ 4 := Nat.lt_succ_of_le (Nat.min_le_left _ _)
  have span := (Record.stored_field (.burst (first :: rest)) number chain (k := 18) (w := 4) (by omega)).trans
    (burstBody_span first rest)
  have member := (Record.stored_field (.burst (first :: rest)) number chain (k := 27 + (11 * earlier.length + 8)) (w := 3)
      (by omega)).trans (burstBody_member at')
  rw [Nat.mod_eq_of_lt spanFits] at span
  rw [Nat.mod_eq_of_lt width] at member
  have place : 36 + 11 * ((worstMember first rest).1 - 1) + 8 = 9 + (27 + (11 * earlier.length + 8)) := by omega
  simp only [Stored.cell, code, count, Record.body, worst, place, span, member, residual, interruption, Record.cell]

/-- The rebuild reads every record's cell back. -/
theorem Record.stored_cell {r : Record} (h : r.fits) : (r.stored number chain).cell = r.cell := by
  cases r with
  | reduction x => exact Record.reduction_stored_cell number chain h
  | swell x => exact Record.swell_stored_cell number chain h
  | burst members =>
    cases members with
    | nil => exact absurd h.1 (by decide)
    | cons first rest => exact Record.burst_stored_cell number chain h
  | restart x =>
    rw [Stored.cell, Record.stored_code h, Record.kindCode]
    cases x.kind <;> rfl
  | _ =>
    rw [Stored.cell, Record.stored_code h]
    rfl

end

/-! ### The rebuilt matrix -/

/-- One stored record counted (R84). -/
def countStored (cells : List Nat) (r : Stored) : List Nat :=
  match r.cell with
  | none => cells
  | some i => bumpCell cells i

theorem rebuiltMatrix_eq (records : List Stored) : rebuiltMatrix records = records.foldl countStored matrixClear := rfl

theorem countStored_getElem? (cells : List Nat) (r : Stored) (k : Nat) :
    (countStored cells r)[k]? = if r.cell = some k then cells[k]?.map fun n => min max32 (n + 1) else cells[k]? := by
  unfold countStored
  split
  next none => rw [none, if_neg (by simp)]
  next i cell => rw [cell, bumpCell_getElem?]; simp only [Option.some.injEq]

/-- Each cell grows by the records that fall in it, and is held at its greatest value. -/
theorem foldl_countStored_getElem? (records : List Stored) {cells : List Nat} {k n : Nat} (at' : cells[k]? = some n)
    (width : n ≤ max32) : (records.foldl countStored cells)[k]? =
      some (min max32 (n + (records.filter fun r => r.cell == some k).length)) := by
  induction records generalizing cells n with
  | nil => simpa [width] using at'
  | cons r rest ih =>
    have counted := countStored_getElem? cells r k
    rw [at', Option.map_some] at counted
    by_cases falls : r.cell = some k
    · rw [if_pos falls] at counted
      rw [List.foldl_cons, ih counted (Nat.min_le_left _ _), List.filter_cons_of_pos (by simpa using falls), List.length_cons]
      congr 1
      omega
    · rw [if_neg falls] at counted
      rw [List.foldl_cons, ih counted width, List.filter_cons_of_neg (by simpa using falls)]

/-- Settles O17. -/
theorem storedRecordsCountTheSame : Obligations.StoredRecordsCountTheSame := by
  refine ⟨fun r number chain fits => Record.stored_cell number chain fits, fun records =>
    ⟨(rebuiltMatrix_sound records).1, fun k inside => ?_⟩⟩
  have clear : matrixClear[k]? = some 0 := by rw [matrixClear, List.getElem?_replicate, if_pos inside]
  rw [rebuiltMatrix_eq, foldl_countStored_getElem? records clear (Nat.zero_le _), Nat.zero_add]
  rfl

end Sys2Proof.Machine
end

section
/-! O31: the burst expiry, the expiry of a proposal and the release check, each at its time. -/

namespace Sys2Proof.Machine

open Sys2Proof

/-! ### The burst expiry (R74, R76, R77) -/

theorem Builder.due_of {b : Builder} {e elapsed : Nat} (timer : b.timer = some e) (reached : e ≤ elapsed) :
    b.due elapsed = true := by
  rw [Builder.due, timer]
  exact decide_eq_true reached

theorem Builder.notDue_of {b : Builder} {elapsed : Nat} (h : ∀ e, b.timer = some e → elapsed < e) :
    b.due elapsed = false := by
  unfold Builder.due
  split
  next => rfl
  next e timer => exact decide_eq_false (Nat.not_le.2 (h e timer))

theorem Builder.overdueAt_of {b : Builder} {e elapsed : Nat} (timer : b.timer = some e) (past : e < elapsed) :
    b.overdueAt elapsed = true := by
  rw [Builder.overdueAt, timer]
  exact decide_eq_true past

/-- A lone member is a REDUCTION, two or more are a BURST (R76, R77). -/
theorem burstRecord_cons (first : Summary) (rest : List Summary) :
    burstRecord (first :: rest) = some (if rest = [] then .reduction first else .burst (first :: rest)) := by
  cases rest with
  | nil => rfl
  | cons m ms => rfl

/-- The members' record goes to the store and to its cell of the matrix, and the builder is EMPTY. -/
theorem State.expireBurst_eq {s : State} {r : Record} (h : burstRecord s.builder.members = some r) :
    s.expireBurst = { s with
      builder := { members := [], timer := none }, matrix := countRecord s.matrix r,
      store := (s.store.take s.now r).settle } := by
  unfold State.expireBurst Builder.expire
  rw [h]
  rfl

/-- The part with the value set of a boundary issued and its tracker's reference reviewed, before a burst expires and the
window is taken (R19). -/
def State.issued (s : State) (n : Nat) : State :=
  { s with
    engine := { s.engine with latest := some (s.valueSet n) },
    tracker := ({ s.tracker with sinceBoundary := 0, firstBoundary := false }).review s.considered (s.valueSet n) }

theorem State.placeBoundary_eq (s : State) (n : Nat) :
    s.placeBoundary n = ((s.issued n).settleBurst s.tracker.setElapsed).takeWindow (s.valueSet n) := rfl

theorem State.settleBurst_overdue {s : State} {e elapsed : Nat} (run : s.monitor.state = .run)
    (timer : s.builder.timer = some e) (past : e < elapsed) : s.settleBurst elapsed = s.expireBurst :=
  if_pos (Bool.and_eq_true_iff.2 ⟨State.running_of_run run, Builder.overdueAt_of timer past⟩)

/-- A boundary behind an overdue expiry finds the burst expired: its value set and the tracker's review read nothing that the
expiry changes. -/
theorem State.placeBoundary_overdue {s : State} {e : Nat} (run : s.monitor.state = .run) (timer : s.builder.timer = some e)
    (past : e < s.tracker.setElapsed) {r : Record} (h : burstRecord s.builder.members = some r) (n : Nat) :
    s.placeBoundary n = s.expireBurst.placeBoundary n := by
  have first : (s.issued n).settleBurst s.tracker.setElapsed = (s.issued n).expireBurst :=
    State.settleBurst_overdue run timer past
  have record : burstRecord (s.issued n).builder.members = some r := h
  have expired := State.expireBurst_eq h
  have idle : (s.expireBurst.issued n).builder.overdueAt s.expireBurst.tracker.setElapsed = false := by rw [expired]; rfl
  rw [State.placeBoundary_eq, first, State.expireBurst_eq record, State.placeBoundary_eq, State.settleBurst_same (.inr idle),
    expired]
  rfl

/-! ### The expiry of a proposal (R145) -/

theorem exec_proposalExpiry_due {s : State} {p : Port} {proposal : Proposal} (slot : s.bank.slot p = some proposal)
    (reached : proposal.expiry ≤ s.monitor.elapsed) : exec (.proposalExpiry p) s = .next (s.emptySlot p) := by
  refine congrArg Host.Outcome.next (if_pos ?_)
  rw [State.proposalDue, slot]
  exact decide_eq_true reached

theorem exec_proposalExpiry_early {s : State} {p : Port} {proposal : Proposal} (slot : s.bank.slot p = some proposal)
    (early : s.monitor.elapsed < proposal.expiry) : exec (.proposalExpiry p) s = .next s := by
  refine congrArg Host.Outcome.next (if_neg ?_)
  rw [State.proposalDue, slot]
  exact fun reached => Nat.not_le.2 early (of_decide_eq_true reached)

/-! ### The release check (R110) -/

theorem State.releaseCheckDue_eq {s : State} {check : Nat} (run : s.monitor.state = .run) (held : s.store.state = .held)
    (at' : s.store.releaseCheck = some check) :
    s.releaseCheckDue = if check ≤ s.monitor.elapsed then some check else none := by
  rw [State.releaseCheckDue, if_pos ⟨State.running_of_run run, held⟩, at']

/-- A HELD store whose blocked block is releasable becomes NORMAL, with no release check. -/
theorem State.judgeHeld_releasable {s : State} (held : s.store.state = .held)
    (free : s.releasable s.store.blockAhead = true) :
    s.judgeHeld = { s with store := { s.store with state := .normal, releaseCheck := none } } :=
  if_pos ⟨held, free⟩

theorem State.judgeHeld_blocked {s : State} (blocked : s.releasable s.store.blockAhead = false) : s.judgeHeld = s :=
  if_neg fun h => Bool.false_ne_true (blocked.symm.trans h.2)

theorem State.judgeHeld_rest (s : State) :
    s.judgeHeld = { s with store := { s.store with
      state := s.judgeHeld.store.state, releaseCheck := s.judgeHeld.store.releaseCheck } } := by
  unfold State.judgeHeld
  split <;> rfl

theorem State.checkRelease_rest (s : State) (check : Nat) :
    s.checkRelease check = { s with
      store := { s.store with
        state := (s.checkRelease check).store.state, releaseCheck := (s.checkRelease check).store.releaseCheck,
        pendingOp := (s.checkRelease check).store.pendingOp },
      operator := { s.operator with attention := (s.checkRelease check).operator.attention },
      consumer := { s.consumer with attention := (s.checkRelease check).consumer.attention } } := by
  unfold State.checkRelease
  rw [State.judgeHeld_rest]
  rfl

/-- Settles O31. -/
theorem timersAct : Obligations.TimersAct := by
  refine fun s => ⟨fun run => ⟨fun e first rest timer members => ?burst, fun early => ?notDue⟩,
    fun p proposal slot => ⟨fun reached => ?proposal, exec_proposalExpiry_early slot⟩,
    fun check run held at' => ⟨fun reached => ?release, fun early => ?unchecked⟩⟩
  case burst =>
    intro r expired
    have record : burstRecord s.builder.members = some r := members ▸ burstRecord_cons first rest
    have expires : s.expireBurst = expired := State.expireBurst_eq record
    refine ⟨fun reached => ?_, fun n past => ?_⟩
    · refine congrArg Host.Outcome.next ?_
      rw [if_pos (Bool.and_eq_true_iff.2 ⟨State.running_of_run run, Builder.due_of timer reached⟩), expires]
    · rw [State.placeBoundary_overdue run timer past record, expires]
  case notDue =>
    refine congrArg Host.Outcome.next (if_neg ?_)
    rw [Builder.notDue_of early, Bool.and_false]
    exact Bool.false_ne_true
  case proposal =>
    exact ⟨_, exec_proposalExpiry_due slot reached, Bank.setSlot_slot _ _ _, Bank.setSlot_slot_other _ _ _,
      State.finish_lineSound _ _, State.finish_lineSound _ _, rfl⟩
  case release =>
    have does : exec .releaseCheck s = .next (s.checkRelease check) := by
      show execReleaseCheck s = _
      rw [execReleaseCheck, State.releaseCheckDue_eq run held at', if_pos reached]
    let waiting : State := { s with store := { s.store with releaseCheck := some (check + releasePeriod) } }
    have same : waiting.releasable waiting.store.blockAhead = s.releasable ((s.store.wpBlock + 1) % 1024) := rfl
    refine ⟨_, does, s.checkRelease_rest check, State.finish_lineSound _ _, State.finish_lineSound _ _, fun free => ?_,
      fun blocked => ?_⟩
    · have judged := State.judgeHeld_releasable (s := waiting) held (same.trans free)
      exact ⟨congrArg (·.store.state) judged, congrArg (·.store.releaseCheck) judged⟩
    · have judged := State.judgeHeld_blocked (s := waiting) (same.trans blocked)
      exact ⟨(congrArg (·.store.state) judged).trans held, congrArg (·.store.releaseCheck) judged⟩
  case unchecked =>
    show execReleaseCheck s = _
    rw [execReleaseCheck, State.releaseCheckDue_eq run held at', if_neg (Nat.not_le.2 early)]

end Sys2Proof.Machine
end

section
/-! O46: what STATUS and READ LIVE show, taken from the state as it stands. -/

namespace Sys2Proof.Machine

open Sys2Proof

/-! ### A request that only reads is answered at its taking (R158) -/

theorem PortState.taken_notify (t : PortState) : t.taken.notify = t.notify := by
  unfold PortState.taken
  split <;> rfl

theorem PortState.taken_failures (t : PortState) :
    t.taken.checkFailures = t.checkFailures ∧ t.taken.lengthFailures = t.lengthFailures := by
  unfold PortState.taken
  split <;> exact ⟨rfl, rfl⟩

/-- A taken request whose reply is completed from the taken state is an answer with the payload of the state before it. -/
theorem State.request_answered {s : State} {p : Port} (h : s.takesRequests p) {frame : List Byte} {code tag : Byte}
    {status : Status} {own : Nat} {payload : List Byte} {act : State → State}
    (completes : act (s.setPort p (s.takenPort p frame))
      = (s.setPort p (s.takenPort p frame)).complete p code tag status own payload) :
    Answered p frame code tag status own payload s (s.request p frame act) := by
  rw [State.request_eq h, completes]
  exact s.complete_answered p frame code tag status own payload

/-! ### STATUS (R122, R138, R161) -/

/-- STATUS shows of the ports the marks, and of its own port the error counters and the notify level. -/
theorem State.statusPayload_setPort {s : State} {p : Port} {t : PortState} (mark : t.mark = (s.port p).mark)
    (check : t.checkFailures = (s.port p).checkFailures) (length : t.lengthFailures = (s.port p).lengthFailures)
    (notify : t.notify = (s.port p).notify) : (s.setPort p t).statusPayload p = s.statusPayload p := by
  simp only [State.statusPayload, State.clockGroup, State.clock, State.setPort_port, State.setPort_port_other,
    State.setPort_store, State.setPort_monitor, State.setPort_bank, State.setPort_tracker, mark, check, length, notify]

theorem State.statusPayload_taken (s : State) (p : Port) (frame : List Byte) :
    (s.setPort p (s.takenPort p frame)).statusPayload p = s.statusPayload p := by
  obtain ⟨check, length⟩ := (s.port p).taken_failures
  exact State.statusPayload_setPort (s.port p).taken_mark check length (s.port p).taken_notify

theorem Store.newestQueued_eq (t : Store) : t.newestQueued = t.newest + t.queue.length := by
  unfold Store.newestQueued Store.newestAssigned
  cases t.queue <;> simp

theorem Store.heldTotal_eq (t : Store) :
    t.heldTotal = (t.episode.map fun e => e.counts.reduction + e.counts.burst + e.counts.swell + e.counts.interval
      + e.counts.gap + e.counts.settings + e.counts.timestep + e.counts.restart).getD 0 := by
  unfold Store.heldTotal
  cases t.episode <;> simp [HeldCounts.total, HeldCounts.toList]

theorem Store.statusGroup_length (t : Store) : t.statusGroup.length = 20 := by simp [Store.statusGroup]

theorem State.clockGroup_length (s : State) : s.clockGroup.length = 14 := by simp [State.clockGroup]

theorem State.statusPayload_length (s : State) (p : Port) : (s.statusPayload p).length = 50 := by
  simp [State.statusPayload, Store.statusGroup_length, State.clockGroup_length]

/-! ### READ LIVE (R164) -/

theorem State.livePayload_setPort (s : State) (p : Port) (t : PortState) : (s.setPort p t).livePayload = s.livePayload := by
  cases p <;> rfl

theorem State.liveFlags_setPort (s : State) (p : Port) (t : PortState) : (s.setPort p t).liveFlags = s.liveFlags := by
  cases p <;> rfl

theorem State.liveFlags_eq (s : State) : s.liveFlags = if s.engine.latest = none then 64 else 0 := by
  unfold State.liveFlags
  cases s.engine.latest <;> rfl

/-- The engine part of a READ LIVE payload. -/
def State.engineBytes (s : State) : List Byte := (s.engine.latest.map ValueSet.livePart).getD []

/-- The parts behind the engine part. -/
def State.contextBytes (s : State) : List Byte :=
  reductionPart s.reduction s.monitor.elapsed ++ swellPart s.swell s.monitor.elapsed ++ s.gap.livePart
    ++ estimatorPart s.estimator (s.reduction.map (·.dir)) ++ s.builder.livePart
    ++ [trackerByte s.tracker.state s.tracker.ref]

theorem State.livePayload_eq (s : State) : s.livePayload = s.engineBytes ++ s.contextBytes := by
  simp only [State.livePayload, State.engineBytes, State.contextBytes, List.append_assoc]

@[simp] theorem PhaseValues.bytes_length (v : PhaseValues) : v.bytes.length = 9 := by simp [PhaseValues.bytes]

theorem ValueSet.livePart_length (v : ValueSet) : v.livePart.length = 51 := by simp [ValueSet.livePart]

theorem State.engineBytes_length (s : State) : s.engineBytes.length = if s.engine.latest = none then 0 else 51 := by
  unfold State.engineBytes
  cases s.engine.latest <;> simp [ValueSet.livePart_length]

/-- The figures of the value set at their places. -/
theorem ValueSet.livePart_fields (v : ValueSet) :
    fieldAt v.livePart 0 6 = v.elapsed % 256 ^ 6 ∧ fieldAt v.livePart 6 6 = v.clock % 256 ^ 6
      ∧ fieldAt v.livePart 12 2 = v.n % 256 ^ 2 ∧ fieldAt v.livePart 18 2 = v.phases.a.u % 256 ^ 2
      ∧ fieldAt v.livePart 48 3 = v.totalS % 256 ^ 3 := by
  refine ⟨?_, ?_, ?_, ?_, ?_⟩ <;>
    simp [ValueSet.livePart, PhaseValues.bytes, fieldAt_behind, fieldAt_past, fieldAt_head, fieldAt_alone]

@[simp] theorem reductionPart_length (context : Option Reduction) (now : Nat) : (reductionPart context now).length = 17 := by
  cases context <;> simp [reductionPart]

@[simp] theorem swellPart_length (context : Option Swell) (now : Nat) : (swellPart context now).length = 15 := by
  cases context <;> simp [swellPart]

@[simp] theorem GapContext.livePart_length (g : GapContext) : g.livePart.length = 6 := by simp [GapContext.livePart]

@[simp] theorem estimatorPart_length (e : Estimator) (dir : Option DirectionFields) : (estimatorPart e dir).length = 12 := by
  simp [estimatorPart]

@[simp] theorem Builder.livePart_length (b : Builder) : b.livePart.length = 8 := by simp [Builder.livePart]

theorem State.contextBytes_length (s : State) : s.contextBytes.length = 59 := by simp [State.contextBytes]

theorem reductionPart_state (context : Option Reduction) (now : Nat) :
    fieldAt (reductionPart context now) 0 1 = redStateCode context := by
  rw [fieldAt_one]
  cases context with
  | none => rfl
  | some r => cases r with | mk state => cases state <;> rfl

theorem swellPart_state (context : Option Swell) (now : Nat) :
    fieldAt (swellPart context now) 0 1 = if context = none then 0 else 1 := by
  rw [fieldAt_one]
  cases context <;> rfl

theorem GapContext.livePart_state (g : GapContext) :
    fieldAt g.livePart 0 1 = if g.opened = none then 0 else 1 := by
  rw [fieldAt_one]
  cases g with | mk opened => cases opened <;> rfl

/-- The context states and counts at their places. -/
theorem State.contextBytes_fields (s : State) :
    fieldAt s.contextBytes 0 1 = redStateCode s.reduction
      ∧ fieldAt s.contextBytes 17 1 = (if s.swell = none then 0 else 1)
      ∧ fieldAt s.contextBytes 32 1 = (if s.gap.opened = none then 0 else 1)
      ∧ fieldAt s.contextBytes 33 1 = s.gap.runCount % 256
      ∧ fieldAt s.contextBytes 38 1 = s.estimator.ring.length % 256
      ∧ fieldAt s.contextBytes 51 1 = s.builder.members.length % 256
      ∧ byteAt s.contextBytes 58 = trackerByte s.tracker.state s.tracker.ref := by
  simp only [State.contextBytes, List.append_assoc]
  refine ⟨?_, ?_, ?_, ?_, ?_, ?_, ?_⟩
  · rw [fieldAt_within (by simp), reductionPart_state]
  · rw [fieldAt_behind (by simp), fieldAt_within (by simp), reductionPart_length, swellPart_state]
  · rw [fieldAt_behind (by simp), fieldAt_behind (by simp), fieldAt_within (by simp), reductionPart_length, swellPart_length,
      GapContext.livePart_state]
  · simp [GapContext.livePart, fieldAt_behind, fieldAt_past, fieldAt_head]
  · simp [estimatorPart, fieldAt_behind, fieldAt_head]
  · simp [Builder.livePart, fieldAt_behind, fieldAt_past, fieldAt_head]
  · simp [byteAt]

/-- Settles O46. -/
theorem statusAndLiveAnswered : Obligations.StatusAndLiveAnswered := by
  intro p tag s takes code tracker status
  refine ⟨?status, ?live⟩
  case status =>
    have quality : bitAt 0 s.monitor.quality.bit = if s.monitor.quality = .set then 1 else 0 := by
      cases s.monitor.quality <;> rfl
    have payload : s.statusPayload p = status := by
      simp only [State.statusPayload, Store.statusGroup, State.clockGroup, Store.newestQueued_eq, Store.heldTotal_eq, quality,
        status, List.append_assoc]
      rfl
    refine ⟨_, rfl, payload ▸ s.statusPayload_length p, State.request_answered takes ?_⟩
    rw [State.serveStatus, State.statusPayload_taken, payload]
  case live =>
    obtain ⟨state, swell, gap, run, ring, members, track⟩ := s.contextBytes_fields
    refine ⟨_, s.engineBytes, s.contextBytes, rfl, State.request_answered takes ?_, s.engineBytes_length,
      s.contextBytes_length, fun v latest => ?_, state, swell, gap, run, ring, members, track⟩
    · rw [State.serveReadLive, State.livePayload_setPort, State.livePayload_eq, State.liveFlags_setPort, State.liveFlags_eq]
    · rw [State.engineBytes, latest]
      exact v.livePart_fields

end Sys2Proof.Machine
end

section
/-! O47: the cells that READ MATRIX shows, and the values and the slots that READ SETTINGS shows. -/

namespace Sys2Proof.Machine

open Sys2Proof

/-! ### READ MATRIX (R85, R165) -/

theorem matrixPayload_length (cells : List Nat) : (matrixPayload cells).length = 4 * cells.length :=
  length_flatMap_parts (leBytes_length 4) cells

/-- A cell of 32 bits stands whole at its place. -/
theorem matrixPayload_cell {cells : List Nat} (width : ∀ n ∈ cells, n ≤ max32) {i n : Nat} (at' : cells[i]? = some n) :
    fieldAt (matrixPayload cells) (4 * i) 4 = n := by
  have fits : n < 256 ^ 4 := Nat.lt_succ_of_le (width n (List.mem_of_getElem? at'))
  exact ((fieldAt_flatMap (leBytes_length 4) at' (k := 0) (Nat.le_refl 4)).trans (fieldAt_alone 4 n)).trans
    (Nat.mod_eq_of_lt fits)

theorem frameParams_requestFrame_nil (p : Port) (code tag : Byte) : frameParams (requestFrame p code tag []) = [] := by
  simp [frameParams]

/-! ### READ SETTINGS (R153, R166) -/

/-- The value that reading an index gives: 0 for setting 13, which is no standing setting. -/
theorem Bank.valueAt_eq (b : Bank) (k : Nat) :
    b.valueAt k = if k = 13 then 0 else if k = 14 then b.currentEpoch else b.inForce.value k := by
  by_cases standing : k = 13
  · subst standing
    rfl
  · rw [if_neg standing]
    rfl

/-- One byte of a byte's own value. -/
theorem leBytes_one_toNat (b : Byte) : leBytes 1 b.toNat = [b] := by simp [leBytes]

theorem Bank.slotPart_empty {b : Bank} {p : Port} (h : b.slot p = none) : b.slotPart p = List.replicate 14 0 := by
  rw [Bank.slotPart, h]

theorem Bank.slotPart_lodged {b : Bank} {p : Port} {x : Proposal} (h : b.slot p = some x) : b.slotPart p =
    [if b.matched then 2 else 1] ++ leBytes 1 x.changes.length ++ leBytes 6 x.lodged ++ leBytes 6 x.expiry
      ++ x.changes.flatMap fun c => leBytes 1 c.index ++ leSigned 4 c.value := by
  rw [Bank.slotPart, h, Bank.slotCode, h]
  cases b.matched <;> rfl

theorem Bank.settingsPayload_eq (b : Bank) (first last : Byte) :
    b.settingsPayload first.toNat last.toNat = [first, last]
      ++ ((List.range' first.toNat (last.toNat + 1 - first.toNat)).flatMap fun k => leSigned 4 (b.valueAt k : Int))
      ++ b.slotPart .operator ++ b.slotPart .consumer := by
  unfold Bank.settingsPayload
  rw [leBytes_one_toNat, leBytes_one_toNat, List.range'_eq_map_range, List.flatMap_map]
  rfl

/-- Settles O47. -/
theorem matrixAndSettingsAnswered : Obligations.MatrixAndSettingsAnswered := by
  intro p tag first last s takes
  refine ⟨fun sound => ?matrix, ?settings⟩
  case matrix =>
    obtain ⟨cells, width⟩ := sound
    refine ⟨_, matrixPayload s.matrix, rfl, frameParams_requestFrame_nil p 5 tag, State.request_answered takes ?_,
      (matrixPayload_length _).trans (by rw [cells]), fun row column n _ _ at' => ?_, fun row column n _ _ at' => ?_,
      fun x => ?_, fun x => ?_⟩
    · rw [State.serveReadMatrix, State.setPort_matrix]
    · rw [← matrixPayload_cell width at']
      congr 1
      omega
    · rw [← matrixPayload_cell width at']
      congr 1
      omega
    · refine ⟨_, _, rfl, reductionRow_lt _ _, reductionColumn_lt _, (reductionRow_eq_four_iff _ _).2, fun none => ?_, rfl⟩
      rw [none]
      rfl
    · rw [Record.cell, swellCell]
      split_ifs <;> rfl
  case settings =>
    intro frame value slot
    refine ⟨fun low order high => ⟨_, rfl, State.request_answered takes ?_⟩,
      fun outside => ⟨_, rfl, State.request_answered takes ?_⟩⟩
    · have values : s.bank.valueAt = value := funext s.bank.valueAt_eq
      have slots : ∀ q, s.bank.slotPart q = slot q := fun q => by
        cases held : s.bank.slot q with
        | none => simp only [slot, held, Bank.slotPart_empty held]
        | some x => simp only [slot, held, Bank.slotPart_lodged held]
      rw [State.serveReadSettings, if_pos ⟨low, order, high⟩, State.setPort_bank, Bank.settingsPayload_eq, values, slots, slots]
    · rw [State.serveReadSettings, if_neg outside]

end Sys2Proof.Machine
end

section
/-! What the scan's stage of a restart leaves: the array without its damaged blocks, the epoch settled in one of five ways, and
the settings recovered (R118 to R121, R141). -/

namespace Sys2Proof.Machine

open Sys2Proof

/-! ### Blocks erased in any array (R118) -/

/-- An array thinned out by address reads blank where it was thinned out, canonical or not. -/
theorem Memory.read_filter (m : Memory) (keep : Nat → Bool) (a : Nat) :
    Memory.read (m.filter fun cell => keep cell.1) a = if keep a = true then Memory.read m a else blankByte := by
  induction m with
  | nil => exact (ite_self _).symm
  | cons cell rest ih =>
    obtain ⟨x, v⟩ := cell
    by_cases here : x = a
    · subst here
      by_cases kept : keep x = true <;> simp [Memory.read, kept, ih]
    · by_cases kept : keep x = true <;> simp [Memory.read, kept, ih, here]

theorem Memory.read_eraseBlock_any (m : Memory) (b a : Nat) :
    Memory.read (Memory.eraseBlock m b) a = if a / 4096 = b then blankByte else Memory.read m a := by
  have outside : (decide (a < slotAddress b 0) || decide (slotAddress b 0 + blockBytes ≤ a)) = true ↔ ¬ a / 4096 = b := by
    rw [Bool.or_eq_true, decide_eq_true_iff, decide_eq_true_iff]
    simp only [slotAddress, blockBytes, blockSlots, slotBytes]
    omega
  refine (Memory.read_filter m (fun x => decide (x < slotAddress b 0) || decide (slotAddress b 0 + blockBytes ≤ x)) a).trans ?_
  rw [if_congr outside rfl rfl, ite_not]

theorem Memory.read_eraseBlocks (blocks : List Nat) (m : Memory) (a : Nat) :
    Memory.read (blocks.foldl Memory.eraseBlock m) a = if a / 4096 ∈ blocks then blankByte else Memory.read m a := by
  induction blocks generalizing m with
  | nil => rfl
  | cons b rest ih =>
    rw [List.foldl_cons, ih, Memory.read_eraseBlock_any]
    by_cases first : a / 4096 = b <;> simp [first]

/-! ### The epoch settled (R120) -/

theorem State.endDrain_empty {s : State} (resetting : s.store.state = .resetting) (drain : s.store.resetPhase = some .drain)
    (empty : s.store.queue = []) : s.endDrain.store = { s.store with resetPhase := some .noteWrite } := by
  rw [State.endDrain, if_pos ⟨resetting, drain, by rw [empty]; rfl⟩]
  rfl

theorem State.endDrain_waiting {s : State} (waiting : s.store.queue ≠ []) : s.endDrain = s :=
  if_neg fun h => waiting (List.isEmpty_iff.1 h.2.2)

/-- The settings area ahead takes the write handed over. -/
theorem State.writeArea_areaAhead (s : State) (w : AreaWrite) :
    (s.writeArea w).bank.areaAhead = s.bank.areaAhead.apply w := by
  simp [State.writeArea, Bank.areaAhead]

theorem State.endDrain_values (s : State) : s.endDrain.bank.areaAhead.values = s.bank.areaAhead.values := by
  unfold State.endDrain
  split
  · rw [State.writeArea_areaAhead]
    rfl
  · rfl

section
variable {s : State}

theorem State.settleEpoch_noted {note : ResetNote} (h : s.bank.area.note = some note) :
    s.settleEpoch = { s with store := { s.store with
      state := .resetting, resetPhase := some (.erasing note 0), oldest := none, newest := note.oldLast,
      newestChain := note.oldChain } } := by
  rw [State.settleEpoch, h]

theorem State.settleEpoch_marked (note : s.bank.area.note = none) (mark : s.bank.area.resetMark = true) :
    s.settleEpoch = State.endDrain { s with store := { s.store with state := .resetting, resetPhase := some .drain } } := by
  rw [State.settleEpoch, note]
  exact if_pos mark

theorem State.settleEpoch_blank (note : s.bank.area.note = none) (mark : s.bank.area.resetMark = false)
    (blank : s.store.oldest = none) : s.settleEpoch = s.beginEpoch := by
  rw [State.settleEpoch, note, blank]
  exact if_neg (by rw [mark]; exact Bool.false_ne_true)

theorem State.settleEpoch_stored (note : s.bank.area.note = none) (mark : s.bank.area.resetMark = false)
    (stored : s.store.oldest ≠ none) :
    s.settleEpoch = if (s.store.headNeedsNext && ! s.releasable s.store.blockAhead) = true then s.enterHeld else s := by
  rw [State.settleEpoch, note]
  dsimp only
  rw [if_neg (by rw [mark]; exact Bool.false_ne_true), if_neg (by simpa using stored)]

end

/-- The number of the epoch that a blank store begins (R120, log 11). -/
def State.nextEpoch (s : State) : Nat :=
  if s.bank.areaAhead.epoch < max16 then s.bank.areaAhead.epoch + 1 else (Config.epochPastMax s.freeIndex).toNat

theorem State.nextEpoch_of {s : State} (low : s.bank.areaAhead.epoch < 65535) :
    s.nextEpoch = s.bank.areaAhead.epoch + 1 := if_pos low

/-- The new epoch of a blank store, whose EPOCH record is to be written. -/
theorem State.beginEpoch_store (s : State) : s.beginEpoch.store = { s.store with
    state := .resetting, resetPhase := some (.epochWrite
      { stamp := s.now,
        note := { oldEpoch := s.bank.areaAhead.epoch, newEpoch := s.nextEpoch, oldLast := 0, oldChain := 0 } }) } := by
  unfold State.beginEpoch State.nextEpoch
  dsimp only
  split <;> rfl

theorem State.beginEpoch_values (s : State) : s.beginEpoch.bank.areaAhead.values = s.bank.areaAhead.values := by
  unfold State.beginEpoch
  rw [State.writeArea_areaAhead]
  dsimp only
  split <;> rfl

/-- What settling the epoch leaves of the store. -/
theorem State.settleEpoch_store (s : State) :
    s.settleEpoch.store = { s.store with
      state := s.settleEpoch.store.state, resetPhase := s.settleEpoch.store.resetPhase,
      oldest := s.settleEpoch.store.oldest, newest := s.settleEpoch.store.newest,
      newestChain := s.settleEpoch.store.newestChain, releaseCheck := s.settleEpoch.store.releaseCheck } := by
  unfold State.settleEpoch
  split
  · rfl
  · split
    · unfold State.endDrain
      split <;> rfl
    · split
      · rw [State.beginEpoch_store]
      · split <;> rfl

/-- Without a reset note the numbers stand as the scan found them. -/
theorem State.settleEpoch_numbers {s : State} (note : s.bank.area.note = none) :
    s.settleEpoch.store.oldest = s.store.oldest ∧ s.settleEpoch.store.newest = s.store.newest
      ∧ s.settleEpoch.store.newestChain = s.store.newestChain := by
  rw [State.settleEpoch, note]
  dsimp only
  split
  · unfold State.endDrain
    split <;> exact ⟨rfl, rfl, rfl⟩
  · split
    · rw [State.beginEpoch_store]
      exact ⟨rfl, rfl, rfl⟩
    · split <;> exact ⟨rfl, rfl, rfl⟩

/-- Settling the epoch hands the area a note or an epoch number at most. -/
theorem State.settleEpoch_values (s : State) : s.settleEpoch.bank.areaAhead.values = s.bank.areaAhead.values := by
  unfold State.settleEpoch
  split
  · rfl
  · split
    · exact State.endDrain_values _
    · split
      · exact s.beginEpoch_values
      · split <;> rfl

/-- Unless the store is RESETTING, settling the epoch hands the area nothing. -/
theorem State.settleEpoch_bank {s : State} (h : s.settleEpoch.store.state ≠ .resetting) :
    s.settleEpoch.bank = s.bank ∧ s.bank.area.note = none := by
  cases note : s.bank.area.note with
  | some n => exact absurd (by rw [State.settleEpoch_noted note]) h
  | none =>
    cases mark : s.bank.area.resetMark with
    | true =>
      rw [State.settleEpoch_marked note mark, State.endDrain_rest] at h
      exact absurd (by unfold State.endDrain; split <;> rfl) h
    | false =>
      by_cases stored : s.store.oldest = none
      · rw [State.settleEpoch_blank note mark stored, State.beginEpoch_store] at h
        exact absurd rfl h
      · refine ⟨?_, rfl⟩
        rw [State.settleEpoch_stored note mark stored]
        split <;> rfl

end Sys2Proof.Machine
end

section
/-! O40: the scan's result at the end of a restart. What the scan's stage leaves of the store, the settings, the matrix and the
marks, and that what follows it only takes records. -/

namespace Sys2Proof.Machine

open Sys2Proof

/-! ### The settings recovered (R141) -/

/-- The settings with the changes of newer records put in, in order of number. -/
def Settings.putNewer (set : Settings) (newer : List (Nat × List Changed)) : Settings :=
  newer.foldl (fun set x => set.putAll x.2) set

theorem State.applyNewer_inForce (s : State) (newer : List (Nat × List Changed)) :
    (s.applyNewer newer).bank.inForce = s.bank.inForce.putNewer newer := by
  unfold State.applyNewer
  split
  next none => rw [List.getLast?_eq_none_iff.1 none]; rfl
  next => rfl

theorem State.applyNewer_nil (s : State) : s.applyNewer [] = s := rfl

/-- The area is not the store's, or a reset is under way: the settings are the area's (log 18). -/
theorem State.recoverSettings_skipped {s : State}
    (h : s.store.state = .resetting ∨ s.bank.areaAhead.epoch ≠ s.store.epoch) (records : List Stored) :
    (s.recoverSettings records).bank.inForce = s.bank.areaAhead.values := by
  have skipped : ¬ (s.bank.areaAhead.epoch = s.store.epoch ∧ s.store.state ≠ .resetting) := fun ⟨same, going⟩ =>
    h.elim going fun other => other same
  unfold State.recoverSettings
  dsimp only
  rw [if_neg skipped]

/-- The settings loaded from the area, before newer records are applied. -/
def State.loaded (s : State) : State := { s with bank := { s.bank with inForce := s.bank.areaAhead.values } }

/-- The newer records, stored or queued, that bring the area up to date. -/
def State.newer (s : State) (records : List Stored) : List (Nat × List Changed) :=
  settingsAbove s.bank.areaAhead.lastApplied records s.store.queue

section
variable {s : State} (going : s.store.state ≠ .resetting) (same : s.bank.areaAhead.epoch = s.store.epoch)
  (records : List Stored)
include going same

theorem State.recoverSettings_current :
    s.recoverSettings records =
      match (s.loaded.applyNewer (s.newer records)).lostChange with
      | none => s.loaded.applyNewer (s.newer records)
      | some changes => (s.loaded.applyNewer (s.newer records)).restate changes :=
  if_pos ⟨same, going⟩

theorem State.recoverSettings_applied :
    (s.recoverSettings records).bank.inForce = s.bank.areaAhead.values.putNewer (s.newer records) := by
  have applied := s.loaded.applyNewer_inForce (s.newer records)
  rw [State.recoverSettings_current going same]
  split
  · exact applied
  · rw [State.restate_rest]
    exact applied

/-- R141 case 2: a last change whose record is neither stored nor queued is restated. -/
theorem State.recoverSettings_restated (upToDate : s.newer records = []) {changes : List Changed} {number : Nat}
    (last : s.bank.areaAhead.lastChange = some { changes := changes, mark := .queued number })
    (above : s.store.newest < number) (missing : ∀ e ∈ s.store.queue, e.number ≠ number) :
    (s.recoverSettings records).store =
      (s.store.take s.now (.settings { stamp := s.now, changes := changes, restated := true })).settle := by
  have unqueued : (s.store.queue.any fun e => e.number == number) = false := by simpa using missing
  have lost : s.loaded.lostChange = some changes := by
    have ahead : s.loaded.bank.areaAhead.lastChange = some { changes := changes, mark := .queued number } := last
    rw [State.lostChange, ahead]
    exact if_pos ⟨above, unqueued⟩
  rw [State.recoverSettings_current going same, upToDate, State.applyNewer_nil, lost]
  rfl

end

/-- The GAP record of an episode is no SETTINGS record. -/
theorem settingsAbove_queueGap (number : Nat) (records : List Stored) (t : Store) :
    settingsAbove number records t.queueGap.queue = settingsAbove number records t.queue := by
  unfold Store.queueGap
  split
  · rfl
  · split
    · simp [settingsAbove, Store.enqueue]
    · rfl

/-! ### The scan's stage (R118 to R121, R134) -/

/-- The part with the scan's result taken in and the epoch settled. -/
def State.scanSettled (s : State) : State := (s.scanTaken (Memory.scan s.store.array)).settleEpoch

/-- The part as the settings are recovered. -/
def State.beforeRecovery (s : State) (kind : RestartKind) : State :=
  (s.epochSettled kind (Memory.scan s.store.array)).gapQueued

section
variable (s : State) (kind : RestartKind)

theorem State.endScan_settled : StoreTakes s.scanSettled.store (s.endScan kind).store :=
  (s.finishScan_takes kind _).trans (s.endScan_takes kind)

theorem State.scanSettled_store : s.scanSettled.store =
    { (s.scanTaken (Memory.scan s.store.array)).store with
      state := s.scanSettled.store.state, resetPhase := s.scanSettled.store.resetPhase,
      oldest := s.scanSettled.store.oldest, newest := s.scanSettled.store.newest,
      newestChain := s.scanSettled.store.newestChain, releaseCheck := s.scanSettled.store.releaseCheck } :=
  State.settleEpoch_store _

/-- What the restart's end leaves of the store as the scan found it. -/
theorem State.endScan_store : (s.endScan kind).store =
    { (s.scanTaken (Memory.scan s.store.array)).store with
      state := s.scanSettled.store.state, resetPhase := s.scanSettled.store.resetPhase,
      oldest := s.scanSettled.store.oldest, newest := s.scanSettled.store.newest,
      newestChain := s.scanSettled.store.newestChain, releaseCheck := s.scanSettled.store.releaseCheck,
      queue := (s.endScan kind).store.queue, episode := (s.endScan kind).store.episode,
      pendingOp := (s.endScan kind).store.pendingOp } := by
  have rest := (s.endScan_settled kind).rest
  rwa [s.scanSettled_store] at rest

theorem State.beforeRecovery_takes : StoreTakes s.scanSettled.store (s.beforeRecovery kind).store := by
  rw [State.scanSettled, ← s.epochSettled_store kind]
  exact Store.queueGap_takes _

theorem State.beforeRecovery_bank : (s.beforeRecovery kind).bank = s.scanSettled.bank := by
  unfold State.beforeRecovery State.gapQueued State.epochSettled State.scanSettled
  split <;> rfl

theorem State.beforeRecovery_now : (s.beforeRecovery kind).now = s.now := by
  unfold State.beforeRecovery State.gapQueued State.epochSettled
  rw [State.settleEpoch_rest]
  split <;> rfl

theorem State.endScan_inForce : (s.endScan kind).bank.inForce =
    ((s.beforeRecovery kind).recoverSettings (Memory.scan s.store.array).records).bank.inForce := by
  rw [State.endScan_bank, State.restartRecorded, State.recordRestart_rest, State.clearForStart_rest]
  rfl

/-- At COLD the matrix and the marks are recovered, and otherwise they stand (R134). -/
theorem State.finishScan_recovered : (s.finishScan kind (Memory.scan s.store.array)).matrix =
      (if kind ≠ .cold then s.matrix
        else if s.scanSettled.store.state = .resetting then matrixClear
        else rebuiltMatrix (Memory.scan s.store.array).records)
    ∧ (kind = .cold →
      (s.finishScan kind (Memory.scan s.store.array)).operator.mark = ((Memory.scan s.store.array).marks.getD (0, 0)).1
      ∧ (s.finishScan kind (Memory.scan s.store.array)).consumer.mark =
        ((Memory.scan s.store.array).marks.getD (0, 0)).2) := by
  rw [State.finishScan_eq, State.recoverSettings_rest, State.epochSettled]
  by_cases cold : kind = .cold
  · rw [if_pos cold, if_neg (not_not_intro cold)]
    exact ⟨rfl, fun _ => ⟨rfl, rfl⟩⟩
  · rw [if_neg cold, if_pos cold, State.settleEpoch_rest]
    exact ⟨rfl, fun h => absurd h cold⟩

/-- With no burst overdue the records handed over as measuring starts are not counted. -/
theorem State.startMeasuring_matrix {s : State} (h : s.builder.due s.monitor.elapsed = false) (kind : RestartKind) :
    (s.startMeasuring kind).matrix = s.matrix := by
  have uncounted : ∀ r ∈ s.startRecords, r.cell = none := by
    intro r among
    have frozen : r ∈ s.frozenRecord := by
      rwa [State.startRecords, State.overdueBurst, h, if_neg Bool.false_ne_true, Option.toList_none, List.append_nil] at among
    unfold State.frozenRecord at frozen
    split at frozen
    · exact absurd frozen List.not_mem_nil
    · exact s.intervalRecord_cell _ _ r frozen
  rw [State.startMeasuring_eq, State.finish_matrix, State.deliver_matrix _ _ uncounted]
  rfl

theorem State.endScan_matrix (h : s.builder.due s.monitor.elapsed = false) :
    (s.endScan kind).matrix = (s.finishScan kind (Memory.scan s.store.array)).matrix := by
  have idle : (s.restartRecorded kind).builder.due (s.restartRecorded kind).monitor.elapsed = false := by
    rw [State.restartRecorded_rest]
    exact h
  rw [State.endScan_eq, State.startMeasuring_matrix idle, State.restartRecorded, State.recordRestart_rest,
    State.clearForStart_rest]

theorem State.endScan_recoveredMark (cold : kind = .cold) (p : Port) : ((s.endScan kind).port p).mark =
    (match p with
      | .operator => ((Memory.scan s.store.array).marks.getD (0, 0)).1
      | .consumer => ((Memory.scan s.store.array).marks.getD (0, 0)).2) := by
  obtain ⟨operator, consumer⟩ := s.endScan_marks kind
  obtain ⟨operatorMark, consumerMark⟩ := (s.finishScan_recovered kind).2 cold
  have recorded : (s.restartRecorded kind).operator.mark = (s.finishScan kind (Memory.scan s.store.array)).operator.mark
      ∧ (s.restartRecorded kind).consumer.mark = (s.finishScan kind (Memory.scan s.store.array)).consumer.mark := by
    rw [State.restartRecorded, State.recordRestart_rest, State.clearForStart_rest]
    exact ⟨rfl, rfl⟩
  cases p
  · exact (operator.trans recorded.1).trans operatorMark
  · exact (consumer.trans recorded.2).trans consumerMark

theorem CountsKind.settings (r : SettingsRecord) : CountsKind HeldCounts.settings (.settings r) where
  own _ := one_le_bump16 _
  kept c x h := by
    cases x
    case settings => exact one_le_bump16 _
    all_goals exact h

/-- A record that the store holds after the scan's stage it holds to the end of the restart. -/
theorem State.endScan_holds {count : HeldCounts → Nat} {r : Record} (counts : CountsKind count r)
    (h : (s.finishScan kind (Memory.scan s.store.array)).store.Holds count r) : (s.endScan kind).store.Holds count r := by
  rw [State.endScan_eq]
  refine State.startMeasuring_holds counts (.inl ?_) kind
  rw [State.restartRecorded_store]
  exact h.take counts _ _

end

/-- The queue head does not fit the slots left: it would pass the block's end. -/
theorem Store.headNeedsNext_iff (t : Store) :
    t.headNeedsNext = true ↔ ∃ e rest, t.queue = e :: rest ∧ 128 < t.wpSlot + e.record.slots := by
  unfold Store.headNeedsNext Store.headFits Store.slotsLeft blockSlots
  cases t.queue with
  | nil => simp
  | cons e rest =>
    have pos := e.record.slots_pos
    simp
    omega

section
variable (s : State) (kind : RestartKind)

/-- The settings at the end of the restart, where they are the area's alone. -/
theorem State.endScan_areaSettings
    (h : (s.endScan kind).store.state = .resetting ∨ s.bank.areaAhead.epoch ≠ (s.endScan kind).store.epoch) :
    (s.endScan kind).bank.inForce = s.bank.areaAhead.values := by
  have values : (s.beforeRecovery kind).bank.areaAhead.values = s.bank.areaAhead.values := by
    rw [State.beforeRecovery_bank]
    exact State.settleEpoch_values _
  rw [State.endScan_inForce, State.recoverSettings_skipped ?_, values]
  rw [(s.endScan_settled kind).rest] at h
  rw [(s.beforeRecovery_takes kind).rest, State.beforeRecovery_bank]
  by_cases resetting : s.scanSettled.store.state = .resetting
  · exact .inl resetting
  · have bank : s.scanSettled.bank = s.bank := (State.settleEpoch_bank resetting).1
    exact .inr (bank ▸ h.resolve_left resetting)

end

/-- The part comes to the recovery of its settings with no reset under way and an area of the store's epoch: what it recovers
from. -/
structure State.Recovers (s : State) (kind : RestartKind) : Prop where
  going : (s.beforeRecovery kind).store.state ≠ .resetting
  same : (s.beforeRecovery kind).bank.areaAhead.epoch = (s.beforeRecovery kind).store.epoch
  bank : (s.beforeRecovery kind).bank = s.bank
  note : s.bank.area.note = none

section
variable {s : State} {kind : RestartKind}

theorem State.recovers (going : (s.endScan kind).store.state ≠ .resetting)
    (same : s.bank.areaAhead.epoch = (s.endScan kind).store.epoch) : s.Recovers kind := by
  rw [(s.endScan_settled kind).rest] at going same
  obtain ⟨bank, note⟩ := State.settleEpoch_bank going
  have unwritten : (s.beforeRecovery kind).bank = s.bank := (s.beforeRecovery_bank kind).trans bank
  refine ⟨?_, ?_, unwritten, note⟩
  · rw [(s.beforeRecovery_takes kind).rest]
    exact going
  · rw [unwritten, (s.beforeRecovery_takes kind).rest]
    exact same

/-- The queue that the scan leaves: its entries above the newest record found (R121, log 37). -/
theorem State.scanSettled_queue (s : State) : s.scanSettled.store.queue =
    s.store.queue.filter fun e => decide ((((Memory.scan s.store.array).stored.getLast?.map fun c => c.last.number).getD 0)
      < e.number) := by
  rw [s.scanSettled_store]
  rfl

theorem State.Recovers.newer (h : s.Recovers kind) (records : List Stored) :
    (s.beforeRecovery kind).newer records = settingsAbove s.bank.areaAhead.lastApplied records s.scanSettled.store.queue := by
  rw [State.newer, h.bank, State.beforeRecovery, State.gapQueued]
  dsimp only
  rw [settingsAbove_queueGap, State.epochSettled_store]
  rfl

/-- R141 case 1: the settings at the end of the restart. -/
theorem State.Recovers.inForce (h : s.Recovers kind) : (s.endScan kind).bank.inForce =
    s.bank.areaAhead.values.putNewer
      (settingsAbove s.bank.areaAhead.lastApplied (Memory.scan s.store.array).records s.scanSettled.store.queue) := by
  rw [State.endScan_inForce, State.recoverSettings_applied h.going h.same, h.newer, h.bank]

/-- R141 case 2: the record of a lost change is in the queue or counted. -/
theorem State.Recovers.restated (h : s.Recovers kind) (episode : s.store.episode = none)
    (upToDate : settingsAbove s.bank.areaAhead.lastApplied (Memory.scan s.store.array).records s.scanSettled.store.queue = [])
    {changes : List Changed} {number : Nat}
    (last : s.bank.areaAhead.lastChange = some { changes := changes, mark := .queued number })
    (above : s.scanSettled.store.newest < number) (missing : ∀ e ∈ s.scanSettled.store.queue, e.number ≠ number) :
    (s.endScan kind).store.Holds HeldCounts.settings
      (.settings { stamp := s.now, changes := changes, restated := true }) := by
  have noEpisode : s.scanSettled.store.episode = none := by
    rw [s.scanSettled_store]
    exact episode
  have store : (s.beforeRecovery kind).store = s.scanSettled.store := by
    rw [State.beforeRecovery, State.gapQueued]
    dsimp only
    rw [State.epochSettled_store]
    exact Store.queueGap_noEpisode noEpisode
  have taken := State.recoverSettings_restated h.going h.same _ ((h.newer _).trans upToDate) (h.bank ▸ last)
    (store ▸ above) (store ▸ missing)
  refine s.endScan_holds kind (.settings _) ?_
  rw [State.finishScan_eq]
  have := Store.take_holds (.settings { stamp := s.now, changes := changes, restated := true })
    (s.beforeRecovery kind).store s.now
  rw [s.beforeRecovery_now kind] at taken
  exact taken ▸ this

/-- R120: a store that holds records is HELD where its head does not fit and the block ahead is not released, and otherwise
NORMAL. -/
theorem State.scanSettled_stored (note : s.bank.area.note = none) (mark : s.bank.area.resetMark = false)
    (stored : (Memory.scan s.store.array).stored ≠ []) :
    let t := (s.scanTaken (Memory.scan s.store.array))
    s.scanSettled = if (t.store.headNeedsNext && ! t.releasable t.store.blockAhead) = true then t.enterHeld else t := by
  refine State.settleEpoch_stored note mark ?_
  show (Memory.scan s.store.array).stored.head?.map _ ≠ none
  simpa using stored

end

end Sys2Proof.Machine
end

section
/-! O40 settled: each clause about the end of a restart, from what the scan's stage leaves. -/

namespace Sys2Proof.Machine

open Sys2Proof

section
variable (s : State) (kind : RestartKind)

/-! ### The array, the block table and the write position (R118, R119) -/

theorem State.endScan_read (a : Nat) : Memory.read (s.endScan kind).store.array a =
    if a / 4096 ∈ (Memory.scan s.store.array).damaged then 0xFF else Memory.read s.store.array a := by
  rw [s.endScan_store kind]
  exact Memory.read_eraseBlocks _ _ a

theorem State.endScan_newest :
    (s.endScan kind).store.wpBlock = ((Memory.scan s.store.array).newest.map fun c => c.block).getD 0
    ∧ (s.endScan kind).store.wpSlot = ((Memory.scan s.store.array).newest.map fun c => c.stop.writeSlot).getD 0 := by
  rw [s.endScan_store kind]
  exact ⟨rfl, rfl⟩

theorem State.endScan_noBlocks (h : (Memory.scan s.store.array).stored = []) :
    (s.endScan kind).store.wpBlock = 0 ∧ (s.endScan kind).store.wpSlot = 0 := by
  have position := s.endScan_newest kind
  rw [ScanResult.newest, h] at position
  exact position

theorem State.endScan_position {c : Candidate} (h : (Memory.scan s.store.array).stored.getLast? = some c) :
    (s.endScan kind).store.wpBlock = c.block ∧ (s.endScan kind).store.wpSlot = c.stop.writeSlot := by
  have position := s.endScan_newest kind
  rw [ScanResult.newest, h] at position
  exact position

/-! ### The queue (R121) -/

theorem State.endScan_queue : s.scanSettled.store.queue <+: (s.endScan kind).store.queue := by
  obtain ⟨later, grown⟩ := (s.endScan_settled kind).grows
  exact ⟨later, grown.symm⟩

theorem State.endScan_state : (s.endScan kind).store.state = s.scanSettled.store.state := by rw [s.endScan_store kind]

theorem State.endScan_resetPhase : (s.endScan kind).store.resetPhase = s.scanSettled.store.resetPhase := by
  rw [s.endScan_store kind]

theorem State.endScan_numbers : (s.endScan kind).store.oldest = s.scanSettled.store.oldest
    ∧ (s.endScan kind).store.newest = s.scanSettled.store.newest
    ∧ (s.endScan kind).store.newestChain = s.scanSettled.store.newestChain := by
  rw [s.endScan_store kind]
  exact ⟨rfl, rfl, rfl⟩

end

/-- R120: a reset note resumes the erase phase. -/
theorem State.endScan_noted {s : State} {note : ResetNote} (h : s.bank.area.note = some note) (kind : RestartKind) :
    (s.endScan kind).store.state = .resetting ∧ (s.endScan kind).store.resetPhase = some (.erasing note 0)
      ∧ (s.endScan kind).store.oldest = none ∧ (s.endScan kind).store.newest = note.oldLast
      ∧ (s.endScan kind).store.newestChain = note.oldChain := by
  obtain ⟨oldest, newest, chain⟩ := s.endScan_numbers kind
  have settled : s.scanSettled = _ := State.settleEpoch_noted h
  rw [s.endScan_state kind, s.endScan_resetPhase kind, oldest, newest, chain, settled]
  exact ⟨rfl, rfl, rfl, rfl, rfl⟩

section
variable {s : State} (note : s.bank.area.note = none) (kind : RestartKind)
include note

theorem State.endScan_found : (s.endScan kind).store.oldest =
      (Memory.scan s.store.array).stored.head?.map (fun c => c.first.number)
    ∧ (s.endScan kind).store.newest =
      ((Memory.scan s.store.array).stored.getLast?.map fun c => c.last.number).getD 0
    ∧ (s.endScan kind).store.newestChain =
      ((Memory.scan s.store.array).stored.getLast?.map fun c => c.last.chain).getD 0 := by
  obtain ⟨oldest, newest, chain⟩ := s.endScan_numbers kind
  obtain ⟨oldestFound, newestFound, chainFound⟩ :=
    State.settleEpoch_numbers (s := s.scanTaken (Memory.scan s.store.array)) note
  exact ⟨oldest.trans oldestFound, newest.trans newestFound, chain.trans chainFound⟩

/-- R120: a reset mark alone resumes the drain, or its note's write with the queue empty. -/
theorem State.endScan_marked (mark : s.bank.area.resetMark = true) : (s.endScan kind).store.state = .resetting
    ∧ (s.endScan kind).store.resetPhase = some (if s.scanSettled.store.queue = [] then .noteWrite else .drain) := by
  have settled : s.scanSettled = _ := State.settleEpoch_marked note mark
  have queue : s.scanSettled.store.queue = (s.scanTaken (Memory.scan s.store.array)).store.queue := by
    rw [s.scanSettled_store]
  rw [s.endScan_state kind, s.endScan_resetPhase kind, queue, settled]
  by_cases empty : (s.scanTaken (Memory.scan s.store.array)).store.queue = []
  · rw [if_pos empty, State.endDrain_empty ?_ ?_ ?_]
    · exact ⟨rfl, rfl⟩
    · rfl
    · rfl
    · exact empty
  · rw [if_neg empty, State.endDrain_waiting ?_]
    · exact ⟨rfl, rfl⟩
    · exact empty

/-- R120: a blank store begins the epoch after the area's. -/
theorem State.endScan_blank (mark : s.bank.area.resetMark = false) (blank : (Memory.scan s.store.array).stored = []) :
    (s.endScan kind).store.state = .resetting
    ∧ (s.endScan kind).store.resetPhase = some (.epochWrite
        { stamp := s.now,
          note := { oldEpoch := s.bank.areaAhead.epoch,
                    newEpoch := (s.scanTaken (Memory.scan s.store.array)).nextEpoch, oldLast := 0, oldChain := 0 } }) := by
  have settled : s.scanSettled = _ := State.settleEpoch_blank (s := s.scanTaken (Memory.scan s.store.array)) note mark
    (congrArg (fun stored => stored.head?.map fun c : Candidate => c.first.number) blank)
  rw [s.endScan_state kind, s.endScan_resetPhase kind, settled, State.beginEpoch_store]
  exact ⟨rfl, rfl⟩

/-- R120: a store that holds records is HELD exactly where it is blocked: its head does not fit and the block ahead is not
released. -/
theorem State.endScan_held (mark : s.bank.area.resetMark = false) (stored : (Memory.scan s.store.array).stored ≠ []) :
    let t := s.scanTaken (Memory.scan s.store.array)
    (s.endScan kind).store.resetPhase = none
    ∧ (t.store.headNeedsNext = true ∧ t.releasable t.store.blockAhead = false →
        (s.endScan kind).store.state = .held ∧ (s.endScan kind).store.releaseCheck = some (s.monitor.elapsed + 60000))
    ∧ (¬ (t.store.headNeedsNext = true ∧ t.releasable t.store.blockAhead = false) →
        (s.endScan kind).store.state = .normal ∧ (s.endScan kind).store.releaseCheck = none) := by
  intro t
  have settled : s.scanSettled = if (t.store.headNeedsNext && ! t.releasable t.store.blockAhead) = true then t.enterHeld
    else t := State.scanSettled_stored note mark stored
  have check : (s.endScan kind).store.releaseCheck = s.scanSettled.store.releaseCheck := by rw [s.endScan_store kind]
  have test : (t.store.headNeedsNext && ! t.releasable t.store.blockAhead) = true ↔
      t.store.headNeedsNext = true ∧ t.releasable t.store.blockAhead = false := by
    rw [Bool.and_eq_true, Bool.not_eq_true']
  rw [s.endScan_state kind, s.endScan_resetPhase kind, check, settled, if_congr test rfl rfl]
  refine ⟨?_, fun blocked => ?_, fun free => ?_⟩
  · split <;> rfl
  · rw [if_pos blocked]
    exact ⟨rfl, rfl⟩
  · rw [if_neg free]
    exact ⟨rfl, rfl⟩

end

/-- The blocked test reads the store at the restart's end as it read it at the scan. -/
theorem State.endScan_blocked (s : State) (kind : RestartKind) :
    ((∃ e rest, s.scanSettled.store.queue = e :: rest ∧ 128 < (s.endScan kind).store.wpSlot + e.record.slots)
      ∧ ({ s with store := (s.endScan kind).store }).releasable (((s.endScan kind).store.wpBlock + 1) % 1024) = false)
    ↔ (s.scanTaken (Memory.scan s.store.array)).store.headNeedsNext = true
      ∧ (s.scanTaken (Memory.scan s.store.array)).releasable
        (s.scanTaken (Memory.scan s.store.array)).store.blockAhead = false := by
  rw [Store.headNeedsNext_iff, s.endScan_store kind, s.scanSettled_store]
  rfl

/-! ### The epoch and the marks (R119, R134) -/

theorem State.endScan_epoch (s : State) (kind : RestartKind) :
    (s.endScan kind).store.epoch = (Memory.scan s.store.array).epoch s.bank.areaAhead := by
  rw [s.endScan_store kind]
  rfl

/-- The matrix as the restart's end leaves it, with no burst overdue (R84). -/
theorem State.endScan_rebuilt {s : State} (h : s.builder.due s.monitor.elapsed = false) (kind : RestartKind) :
    (s.endScan kind).matrix = if kind ≠ .cold then s.matrix
      else if (s.endScan kind).store.state = .resetting then List.replicate 31 0
      else rebuiltMatrix (Memory.scan s.store.array).records := by
  rw [s.endScan_matrix kind h, (s.finishScan_recovered kind).1, s.endScan_state kind]
  rfl

/-- Settles O40: each clause of the end of a restart, by the lemma about it. -/
theorem scanResultTakesEffect : Obligations.ScanResultTakesEffect := by
  intro s kind restarting under r area found queue
  have left : s.scanSettled.store.queue = queue := s.scanSettled_queue
  refine ⟨s.endScan kind, exec_restartScanEnd_under restarting under, s.endScan_read kind, ?blocks, s.endScan_noBlocks kind,
    ?position, left ▸ s.endScan_queue kind, ?inFlight, fun note h => State.endScan_noted h kind,
    fun note => State.endScan_found note kind, fun note mark => left ▸ State.endScan_marked note kind mark,
    fun note mark blank => ?blank, fun note mark stored => ?stored, ?epoch, fun idle => State.endScan_rebuilt idle kind,
    ?marks, s.endScan_areaSettings kind, fun going same => ?settings⟩
  case blocks => rw [s.endScan_store kind]; rfl
  case inFlight => rw [s.endScan_store kind]; rfl
  case position =>
    intro c newest
    obtain ⟨block, slot⟩ := s.endScan_position kind newest
    refine ⟨block, slot.trans ?_⟩
    cases c.stop <;> rfl
  case blank =>
    obtain ⟨state, phase⟩ := State.endScan_blank note kind mark blank
    exact ⟨state, _, phase, fun low => State.nextEpoch_of low⟩
  case stored =>
    obtain ⟨phase, held, normal⟩ := State.endScan_held note kind mark stored
    have test := s.endScan_blocked kind
    rw [left] at test
    exact ⟨phase, fun blocked => held (test.1 blocked), fun free => normal fun blocked => free (test.2 blocked)⟩
  case epoch =>
    rw [s.endScan_epoch kind, ScanResult.epoch]
    rfl
  case marks =>
    intro cold p
    rw [s.endScan_recoveredMark kind cold p, ScanResult.marks]
    show _ = match r.records.reverse.find? _ with | some x => _ | none => _
    cases r.records.reverse.find? fun x => x.code == 4 <;> cases p <;> rfl
  case settings =>
    have recovers := State.recovers going same
    have applied := recovers.inForce
    rw [left] at applied
    refine ⟨applied, fun upToDate noEpisode changes number last above missing => ?_⟩
    have newest : s.scanSettled.store.newest = found := (State.settleEpoch_numbers
      (s := s.scanTaken (Memory.scan s.store.array)) recovers.note).2.1
    exact recovers.restated noEpisode (left.symm ▸ upToDate) last (newest.symm ▸ above) (left.symm ▸ missing)

end Sys2Proof.Machine
end

section
/-! O19: a boundary closes the interval into a record and opens the next at it. -/

namespace Sys2Proof.Machine

open Sys2Proof

/-! ### The INTERVAL record (R92) -/

/-- A phase has no voltages in a record without windows, or where it is not considered. -/
theorem Interval.record_volts_absent {i : Interval} {f : Phase}
    (h : i.sums.n = 0 ∨ i.arrangement.considered.has f = false) (endClock closeElapsed nominal m k : Nat) :
    (i.record endClock closeElapsed nominal m k).volts.get f = none := by
  refine (ThreePhase.build_get _ f).trans (if_neg fun present => ?_)
  obtain ⟨windows, considered⟩ := present
  obtain empty | outside := h
  · exact windows empty
  · exact Bool.false_ne_true (outside.symm.trans considered)

/-- A considered phase has its voltages in a record with windows. -/
theorem Interval.record_volts_present {i : Interval} {f : Phase} (windows : i.sums.n ≠ 0)
    (considered : i.arrangement.considered.has f = true) (endClock closeElapsed nominal m k : Nat) :
    (i.record endClock closeElapsed nominal m k).volts.get f = some (voltSummary i.sums.n (i.sums.phases.get f)) :=
  (ThreePhase.build_get _ f).trans (if_pos ⟨windows, considered⟩)

/-- The voltage of an interval is the floor of the root of its mean square. -/
theorem voltSummary_agg {n : Nat} {t : PhaseSums} (width : t.squares / n < 2 ^ 64) :
    (voltSummary n t).agg * (voltSummary n t).agg ≤ t.squares / n
      ∧ t.squares / n < ((voltSummary n t).agg + 1) * ((voltSummary n t).agg + 1) := by
  have root : (voltSummary n t).agg = Nat.sqrt (t.squares / n) := isqrt_eq_sqrt width
  rw [root]
  exact ⟨Nat.sqrt_le _, Nat.lt_succ_sqrt _⟩

/-! ### What R146 holds back -/

/-- A boundary at which R146 lets nothing commit: the slots not MATCHED, something in progress, or the store not ready. -/
theorem State.commitDue_eq_false {s : State}
    (h : s.bank.matched = false ∨ s.reduction.isSome = true ∨ s.swell.isSome = true ∨ s.builder.members ≠ []
      ∨ s.store.state = .resetting ∨ (s.store.state = .held ∧ changeFor s.bank.matchedChanges 14 = none)) :
    s.commitDue = false := by
  refine Bool.eq_false_iff.2 fun due => ?_
  simp only [State.commitDue, Bool.and_eq_true, Bool.or_eq_true, bne_iff_ne, List.isEmpty_iff, Option.isNone_iff_eq_none]
    at due
  obtain ⟨⟨⟨⟨⟨matched, reduction⟩, swell⟩, builder⟩, store⟩, resetting⟩ := due
  obtain unmatched | reducing | swelling | holding | reset | ⟨held, none14⟩ := h
  · exact Bool.false_ne_true (unmatched.symm.trans matched)
  · simp [reduction] at reducing
  · simp [swell] at swelling
  · exact holding builder
  · exact resetting reset
  · simp [held, none14] at store

/-- R146 reads the slots, the contexts, the builder and the store's state alone. -/
theorem State.commitDue_congr {s t : State} (bank : t.bank = s.bank) (reduction : t.reduction = s.reduction)
    (swell : t.swell = s.swell) (builder : t.builder = s.builder) (store : t.store.state = s.store.state) :
    t.commitDue = s.commitDue := by
  simp only [State.commitDue, bank, reduction, swell, builder, store]

theorem State.boundaryNotice_heldBack {s : State} (h : s.commitDue = false) (boundary : Nat) :
    s.boundaryNotice boundary = s := if_neg (Bool.eq_false_iff.1 h)

/-! ### The boundary (R89) -/

theorem Store.take_newest (t : Store) (now : Stamp) (r : Record) : (t.take now r).newest = t.newest := by
  unfold Store.take
  split <;> rfl

theorem Store.take_state (t : Store) (now : Stamp) (r : Record) : (t.take now r).state = t.state := by
  unfold Store.take
  split <;> rfl

/-- The part with its interval closed into a record and the next one open at the boundary, before the Bank takes the
notice. -/
def State.reopened (s : State) (record : Record) : State :=
  let closed : State := { s.handOver record with
    aggregator := { s.aggregator with lastClosed := some s.aggregator.nextBoundary } }
  (closed.openInterval s.aggregator.nextBoundary false false).setBoundary

theorem State.takeBoundary_eq {s : State} {i : Interval} (interval : s.aggregator.interval = some i) :
    s.takeBoundary = ((s.reopened (.interval (i.record s.aggregator.nextBoundary s.monitor.elapsed s.tracker.nominal
      s.operator.mark s.consumer.mark))).boundaryNotice s.aggregator.nextBoundary).finish := by
  unfold State.takeBoundary State.intervalRecord
  rw [interval]
  rfl

theorem State.reopened_commitDue (s : State) (record : Record) : (s.reopened record).commitDue = s.commitDue :=
  State.commitDue_congr rfl rfl rfl rfl (s.store.take_state s.now record)

theorem State.reopened_lineSound {s : State} {p : Port} (h : s.lineSound p) (record : Record) :
    (s.reopened record).lineSound p :=
  (State.lineSound_congr (s := s) (t := s.reopened record) rfl (s.store.take_state s.now record)
    (s.store.take_newest s.now record) rfl rfl (by cases p <;> rfl)).2 h

theorem State.reopened_finish {s : State} (h : ∀ p, s.lineSound p) (record : Record) :
    (s.reopened record).finish = s.reopened record :=
  State.finish_of_lineSound fun p => State.reopened_lineSound (h p) record

theorem State.boundaryReached_of {s : State} {i : Interval} (interval : s.aggregator.interval = some i)
    (frozen : s.aggregator.freeze = none) (due : s.aggregator.nextBoundary ≤ s.clock) : s.boundaryReached = true := by
  rw [State.boundaryReached, Aggregator.isOpen, interval, frozen, decide_eq_true due]
  rfl

/-- Settles O19: with nothing committed the boundary leaves the part as the opening of the next interval does. -/
theorem boundaryClosesInterval : Obligations.BoundaryClosesInterval := by
  intro s i run interval frozen due waits operatorLine consumerLine b minutes r
  refine ⟨⟨?record, fun f => ⟨fun absent => ?absent, fun windows considered width => ?present⟩⟩, ?boundary⟩
  case record => rfl
  case absent => exact Interval.record_volts_absent absent _ _ _ _ _
  case present =>
    exact ⟨_, Interval.record_volts_present windows considered _ _ _ _ _, voltSummary_agg width⟩
  case boundary =>
    have lines : ∀ p, s.lineSound p := fun p => by cases p <;> assumption
    have none : (s.reopened (.interval r)).commitDue = false :=
      (s.reopened_commitDue _).trans (State.commitDue_eq_false waits)
    have taken : s.takeBoundary = s.reopened (.interval r) := by
      rw [State.takeBoundary_eq interval, State.boundaryNotice_heldBack none, State.reopened_finish lines]
    refine congrArg Host.Outcome.next ?_
    rw [if_pos (Bool.and_eq_true_iff.2 ⟨State.running_of_run run, State.boundaryReached_of interval frozen due⟩), taken]
    rfl

end Sys2Proof.Machine
end

section
/-! O37: the reset line holds a running or restarting part, and an abandoned scan leaves each damaged block but one whole or
blank. -/

namespace Sys2Proof.Machine

open Sys2Proof

/-! ### Bytes written elsewhere, in any array -/

/-- A write leaves every other address, whether the array is canonical or not. -/
theorem Memory.read_write_other {a x : Nat} (other : x ≠ a) (v : Byte) (m : Memory) :
    Memory.read (Memory.write m a v) x = Memory.read m x := by
  induction m with
  | nil =>
    rw [Memory.write]
    split
    · rfl
    · simp [Memory.read, other.symm]
  | cons cell rest ih =>
    obtain ⟨y, w⟩ := cell
    rw [Memory.write]
    split_ifs with below blank here blank
    · rfl
    · simp [Memory.read, other.symm]
    · subst here
      simp [Memory.read, other.symm]
    · subst here
      simp [Memory.read, other.symm]
    · simp only [Memory.read, ih]

theorem Memory.read_writeBytes_outside {a x : Nat} {bytes : List Byte} (outside : x < a ∨ a + bytes.length ≤ x)
    (m : Memory) : Memory.read (Memory.writeBytes m a bytes) x = Memory.read m x := by
  induction bytes generalizing m a with
  | nil => rfl
  | cons v vs ih =>
    rw [List.length_cons] at outside
    rw [Memory.writeBytes, ih (by omega), Memory.read_write_other (by omega)]

theorem Memory.read_fill_outside {a n x : Nat} (outside : x < a ∨ a + n ≤ x) (f : Nat → Byte) (m : Memory) :
    Memory.read (Memory.fill m a n f) x = Memory.read m x :=
  Memory.read_writeBytes_outside (by rwa [List.length_map, List.length_range]) m

/-! ### A scan abandoned (R118, R131) -/

/-- `m` is an array that the abandoned scan of `start` left: some of the damaged blocks erased, and at most one of the
others, `cut`, in the middle of its erase. -/
structure Abandoned (start m : Memory) (damaged : List Nat) (cut : Nat) : Prop where
  stands : ∀ a, a / 4096 ∉ damaged → Memory.read m a = Memory.read start a
  erased : ∀ b ∈ damaged, b ≠ cut →
    (∀ a, a / 4096 = b → Memory.read m a = Memory.read start a) ∨ ∀ a, a / 4096 = b → Memory.read m a = blankByte

/-- Whole erases leave every other block as it was. -/
theorem Abandoned.erases (start : Memory) {taken damaged : List Nat} (among : taken ⊆ damaged) (cut : Nat) :
    Abandoned start (taken.foldl Memory.eraseBlock start) damaged cut where
  stands a outside := by rw [Memory.read_eraseBlocks, if_neg fun h => outside (among h)]
  erased b _ _ := by
    by_cases done : b ∈ taken
    · exact .inr fun a inside => by rw [Memory.read_eraseBlocks, if_pos (inside ▸ done)]
    · exact .inl fun a inside => by rw [Memory.read_eraseBlocks, if_neg (inside ▸ done)]

/-- An erase cut short frees the bytes of its own block alone. -/
theorem Abandoned.torn {start m : Memory} {damaged : List Nat} {cut : Nat} (h : Abandoned start m damaged cut)
    (among : cut ∈ damaged) (f : Nat → Byte) :
    Abandoned start (Memory.fill m (slotAddress cut 0) blockBytes f) damaged cut := by
  have elsewhere : ∀ a, a / 4096 ≠ cut →
      Memory.read (Memory.fill m (slotAddress cut 0) blockBytes f) a = Memory.read m a := fun a other =>
    Memory.read_fill_outside (by simp only [slotAddress, blockBytes, blockSlots, slotBytes]; omega) f m
  refine ⟨fun a outside => ?_, fun b damagedBlock other => ?_⟩
  · rw [elsewhere a fun inside => outside (inside ▸ among), h.stands a outside]
  · refine (h.erased b damagedBlock other).imp (fun same a inside => ?_) fun blank a inside => ?_
    · rw [elsewhere a (inside ▸ other), same a inside]
    · rw [elsewhere a (inside ▸ other), blank a inside]

theorem State.stopScan_idle {s : State} (h : s.monitor.state ≠ .restarting) : s.stopScan = s :=
  if_neg fun scanning => h scanning.1

theorem State.tear_idle {s : State} (h : s.store.inFlight = none) : s.tear = s := by
  rw [State.tear, h]

/-- An abandoned scan has erased the damaged blocks before one of them, whose erase may be in flight. -/
theorem State.stopScan_scanning {s : State} (restarting : s.monitor.state = .restarting)
    (scanning : s.monitor.restart.isSome = true) :
    ∃ done, s.stopScan.store.array = ((Memory.damaged s.store.array).take done).foldl Memory.eraseBlock s.store.array
      ∧ ∀ op, s.stopScan.store.inFlight = some op → ∃ cut ∈ Memory.damaged s.store.array, op = .eraseBlock cut := by
  rw [State.stopScan, if_pos ⟨restarting, scanning⟩]
  refine ⟨_, rfl, fun op flight => ?_⟩
  dsimp only at flight
  split_ifs at flight
  obtain ⟨cut, at', rfl⟩ := Option.map_eq_some_iff.1 flight
  exact ⟨cut, List.mem_of_getElem? at', rfl⟩

theorem State.tear_erase {s : State} {block : Nat} (h : s.store.inFlight = some (.eraseBlock block)) :
    s.tear.store.array =
      Memory.fill s.store.array (slotAddress block 0) blockBytes (Config.tornByte s.freeIndex) := by
  rw [State.tear, h]
  dsimp only
  rw [Store.tornArray]

/-- What an abandoned scan and the erase in flight at its stop leave of the array. -/
theorem State.stopScan_abandoned {s : State} (restarting : s.monitor.state = .restarting)
    (scanning : s.monitor.restart.isSome = true) :
    ∃ cut, Abandoned s.store.array s.stopScan.tear.store.array (Memory.scan s.store.array).damaged cut := by
  obtain ⟨done, erased, flight⟩ := State.stopScan_scanning restarting scanning
  have whole := Abandoned.erases s.store.array (List.take_subset done (Memory.damaged s.store.array))
  rw [← erased] at whole
  cases next : s.stopScan.store.inFlight with
  | none => exact ⟨0, by rw [State.tear_idle next]; exact whole 0⟩
  | some op =>
    obtain ⟨cut, among, rfl⟩ := flight op next
    exact ⟨cut, by rw [State.tear_erase next]; exact (whole cut).torn among _⟩

/-! ### The part held by the line (R97, R131, R160) -/

/-- What the reset line leaves of the part: the array and the count of free values by the scan and the operation cut short,
the rest by R97, R131 and R160. -/
theorem State.holdByReset_eq (s : State) :
    s.holdByReset = { s with
      aggregator := s.aggregator.freezeReset s.now,
      monitor := { s.monitor with state := .restarting, restart := none, resetHigh := false },
      store := { s.store with
        array := s.stopScan.tear.store.array, inFlight := none, scanned := false, pendingOp := none },
      bank := { s.bank with areaWrites := [] },
      operator := s.operator.stopped, consumer := s.consumer.stopped, freeCount := s.stopScan.tear.freeCount } := by
  unfold State.holdByReset
  dsimp only
  rw [s.stopScan.tear_rest]
  generalize s.stopScan.tear.store.array = array
  generalize s.stopScan.tear.freeCount = count
  rw [s.stopScan_rest]
  rfl

/-- R97: an OPEN interval is frozen with the gap inside. -/
theorem Aggregator.freezeReset_open {a : Aggregator} {i : Interval} (interval : a.interval = some i)
    (frozen : a.freeze = none) (now : Stamp) : a.freezeReset now = { a with
      interval := some { i with flags := { i.flags with gapInside := true } },
      freeze := some { clock := now.clock, elapsed := now.elapsed, cause := .reset } } := by
  have opened : a.isOpen = true := by rw [Aggregator.isOpen, interval, frozen]; rfl
  rw [Aggregator.freezeReset, if_pos opened, Aggregator.onFlags, interval]
  rfl

theorem Aggregator.freezeReset_closed {a : Aggregator} (h : a.interval = none ∨ a.freeze.isSome = true) (now : Stamp) :
    a.freezeReset now = a := by
  refine if_neg fun opened => ?_
  obtain ⟨interval, freeze⟩ := Bool.and_eq_true_iff.1 opened
  obtain closed | frozen := h
  · rw [closed] at interval
    exact Bool.false_ne_true interval
  · rw [Option.isNone_iff_eq_none.1 freeze] at frozen
    exact Bool.false_ne_true frozen

theorem exec_resetAssert_held {s : State} (high : s.monitor.resetHigh = true)
    (held : s.monitor.state = .run ∨ s.monitor.state = .restarting) : exec .resetAssert s = .next s.holdByReset := by
  show execResetAssert s = _
  rw [execResetAssert, high]
  obtain run | restarting := held
  · rw [run]
    rfl
  · rw [restarting]
    rfl

theorem exec_resetAssert_level {s : State} (high : s.monitor.resetHigh = true)
    (idle : s.monitor.state = .holdup ∨ s.monitor.state = .retain) :
    exec .resetAssert s = .next { s with monitor := { s.monitor with resetHigh := false } } := by
  show execResetAssert s = _
  rw [execResetAssert, high]
  obtain holdup | retain := idle
  · rw [holdup]
    rfl
  · rw [retain]
    rfl

/-- Settles O37. -/
theorem resetHolds : Obligations.ResetHolds := by
  refine fun s => ⟨fun held high => ?holds, fun high idle => exec_resetAssert_level high idle, fun low => ?low⟩
  case holds =>
    refine ⟨_, exec_resetAssert_held high (held.imp id And.left), ?_⟩
    rw [s.holdByReset_eq]
    refine ⟨rfl, fun i interval frozen => Aggregator.freezeReset_open interval frozen s.now,
      fun closed => Aggregator.freezeReset_closed closed s.now, rfl, rfl, rfl, rfl, rfl, rfl, rfl, rfl, rfl, rfl, rfl,
      fun run none => ?array, fun restarting => ?scan, fun p => by cases p <;> rfl⟩
    case array =>
      show s.stopScan.tear.store.array = _
      rw [State.stopScan_idle (by rw [run]; decide), State.tear_idle none]
    case scan =>
      have scanning : s.monitor.restart.isSome = true := held.elim
        (fun run => absurd (run.symm.trans restarting) (by decide)) And.right
      obtain ⟨cut, abandoned⟩ := State.stopScan_abandoned restarting scanning
      exact ⟨abandoned.stands, cut, abandoned.erased⟩
  case low =>
    show execResetAssert s = _
    rw [execResetAssert, low]
    rfl

end Sys2Proof.Machine
end

section
/-! What a request finds of its port, and that a change of time stands apart from the ports: the port on which TIME comes
enters by its mark alone. -/

namespace Sys2Proof.Machine

open Sys2Proof

/-! ### The port that a request takes (R155, R158) -/

/-- The bytes sent in a period follow the monitor's state, the period in progress and the reply. -/
theorem State.bytesOut_congr {s t : State} {p : Port} (state : t.monitor.state = s.monitor.state)
    (period : (t.port p).period = (s.port p).period) (reply : (t.port p).reply = (s.port p).reply)
    (replyState : (t.port p).replyState = (s.port p).replyState) (n : Nat) : t.bytesOut p n = s.bytesOut p n := by
  have start : t.periodAtStart p = s.periodAtStart p := by
    rw [State.periodAtStart, State.running, state, replyState, reply]
    rfl
  rw [State.bytesOut, State.periodNow, state, period, start]
  rfl

theorem State.takenPort_congr {s t : State} {p : Port} (state : t.monitor.state = s.monitor.state)
    (port : t.port p = s.port p) (frame : List Byte) : t.takenPort p frame = s.takenPort p frame := by
  rw [State.takenPort, State.takenPort, port, State.bytesOut_congr state (by rw [port]) (by rw [port]) (by rw [port])]

theorem State.takenPort_mark (s : State) (p : Port) (frame : List Byte) : (s.takenPort p frame).mark = (s.port p).mark :=
  (s.port p).taken_mark

/-- An answer leaves every other field and the other port as they were. -/
theorem Answered.rest {p : Port} {frame : List Byte} {code tag : Byte} {status : Status} {own : Nat} {payload : List Byte}
    {s t : State} (h : Answered p frame code tag status own payload s t) : OnlyPorts s t ∧ t.port p.other = s.port p.other := by
  rw [Answered] at h
  rw [h]
  exact ⟨State.setPort_ports _ _ _, State.setPort_port_other _ _ _⟩

/-! ### Records and the interval beside a port -/

section
variable {s : State} {p : Port} {t : PortState}

theorem State.setPort_clock (s : State) (p : Port) (t : PortState) : (s.setPort p t).clock = s.clock := by
  rw [State.clock, State.setPort_monitor]
  rfl

theorem State.setPort_finalizes (s : State) (p : Port) (t : PortState) (records : List Record) :
    records.foldl State.finalize (s.setPort p t) = (records.foldl State.finalize s).setPort p t := by
  induction records generalizing s with
  | nil => rfl
  | cons r rest ih =>
    have one : (s.setPort p t).finalize r = (s.finalize r).setPort p t := by cases p <;> rfl
    rw [List.foldl_cons, List.foldl_cons, one, ih]

theorem State.setPort_deliver (s : State) (p : Port) (t : PortState) (records : List Record) :
    (s.setPort p t).deliver records = (s.deliver records).setPort p t := by
  have free : (s.setPort p t).useFree = s.useFree.setPort p t := by cases p <;> rfl
  have index : (s.setPort p t).freeIndex = s.freeIndex := s.setPort_freeCount p t
  unfold State.deliver
  rw [free, index]
  split <;> exact State.setPort_finalizes _ p t _

/-- The INTERVAL record shows of a port its mark alone (R92). -/
theorem State.setPort_intervalRecord (mark : t.mark = (s.port p).mark) (endClock closeElapsed : Nat) :
    (s.setPort p t).intervalRecord endClock closeElapsed = s.intervalRecord endClock closeElapsed := by
  have operator : (s.setPort p t).operator.mark = s.operator.mark := by
    cases p
    · exact mark
    · rfl
  have consumer : (s.setPort p t).consumer.mark = s.consumer.mark := by
    cases p
    · rfl
    · exact mark
  simp only [State.intervalRecord, State.setPort_aggregator, State.setPort_tracker, operator, consumer]

theorem State.setPort_markAdjusted (s : State) (p : Port) (t : PortState) :
    (s.setPort p t).markAdjusted = s.markAdjusted.setPort p t := by cases p <;> rfl

theorem State.setPort_intervalInitial (mark : t.mark = (s.port p).mark) (before : Nat) :
    (s.setPort p t).intervalInitial before =
      ((s.intervalInitial before).1.setPort p t, (s.intervalInitial before).2) := by
  have adjusted : t.mark = (s.markAdjusted.port p).mark := by cases p <;> exact mark
  unfold State.intervalInitial
  rw [State.setPort_markAdjusted]
  simp only [State.setPort_intervalRecord adjusted, State.setPort_monitor, State.setPort_aggregator]
  split <;> cases p <;> rfl

theorem State.setPort_intervalStep (mark : t.mark = (s.port p).mark) (before : Nat) :
    (s.setPort p t).intervalStep before = ((s.intervalStep before).1.setPort p t, (s.intervalStep before).2) := by
  have adjusted : t.mark = (s.markAdjusted.port p).mark := by cases p <;> exact mark
  unfold State.intervalStep
  rw [State.setPort_markAdjusted]
  simp only [State.setPort_intervalRecord adjusted, State.setPort_monitor, State.setPort_aggregator, State.setPort_clock]
  split
  · rfl
  · split <;> cases p <;> rfl

/-! ### A change of time -/

/-- The clock at an initial set, before the interval and the record of R95 and R127. -/
def State.clockSet (s : State) (value : Int) : State :=
  { s with monitor := { s.monitor with offset := value - s.monitor.elapsed, quality := .set } }

/-- The clock at a small step, before the interval and the record of R94 and R127. -/
def State.clockStepped (s : State) (x : Int) : State :=
  { s with monitor := { s.monitor with offset := s.monitor.offset + x } }

/-- The small-step-used flag set (R125). -/
def State.stepUsed (s : State) : State := { s with monitor := { s.monitor with smallStepUsed := true } }

theorem State.initialSet_eq (s : State) (q : Port) (value : Int) :
    s.initialSet q value = ((s.clockSet value).intervalInitial s.clock).1.deliver
      (((s.clockSet value).intervalInitial s.clock).2 ++ [(s.clockSet value).timestepRecord true q s.clock]) := rfl

theorem State.smallStep_eq (s : State) (q : Port) (x : Int) :
    s.smallStep q x = ((s.clockStepped x).intervalStep s.clock).1.stepUsed.deliver
      (((s.clockStepped x).intervalStep s.clock).2 ++ [(s.clockStepped x).timestepRecord false q s.clock]) := rfl

theorem State.setPort_initialSet (mark : t.mark = (s.port p).mark) (q : Port) (value : Int) :
    (s.setPort p t).initialSet q value = (s.initialSet q value).setPort p t := by
  have moved : (s.setPort p t).clockSet value = (s.clockSet value).setPort p t := by cases p <;> rfl
  have marked : t.mark = ((s.clockSet value).port p).mark := by cases p <;> exact mark
  rw [State.initialSet_eq, State.initialSet_eq, moved, State.setPort_clock, State.setPort_intervalInitial marked,
    State.setPort_deliver]
  cases p <;> rfl

theorem State.setPort_smallStep (mark : t.mark = (s.port p).mark) (q : Port) (x : Int) :
    (s.setPort p t).smallStep q x = (s.smallStep q x).setPort p t := by
  have stepped : (s.setPort p t).clockStepped x = (s.clockStepped x).setPort p t := by cases p <;> rfl
  have marked : t.mark = ((s.clockStepped x).port p).mark := by cases p <;> exact mark
  have used : ∀ u : State, (u.setPort p t).stepUsed = u.stepUsed.setPort p t := fun u => by cases p <;> rfl
  rw [State.smallStep_eq, State.smallStep_eq, stepped, State.setPort_clock, State.setPort_intervalStep marked, used,
    State.setPort_deliver]
  cases p <;> rfl

end

end Sys2Proof.Machine
end

section
/-! O51: TIME is refused by the first check it fails and otherwise moves the clock, and SET NOTIFY sets its port's level. -/

namespace Sys2Proof.Machine

open Sys2Proof

/-! ### The refusals (R124, R125, R167) -/

theorem timeSetStatus_outside {quality : Quality} {t : Int} (outside : ¬ (0 ≤ t ∧ t ≤ max48)) :
    timeSetStatus quality t = .range := if_pos outside

theorem timeSetStatus_inside {t : Int} (low : 0 ≤ t) (high : t ≤ max48) (quality : Quality) :
    timeSetStatus quality t = if quality = .set then .conflict else .ok := if_neg (not_not.2 ⟨low, high⟩)

theorem State.timeStepStatus_size {s : State} {x : Int} (size : x = 0 ∨ 2000 < x.natAbs) : s.timeStepStatus x = .range :=
  if_pos size

/-- With a step of an allowed size the quality, the flag and the clock's range are checked in this order (R125). -/
theorem State.timeStepStatus_small {x : Int} (moves : x ≠ 0) (small : x.natAbs ≤ 2000) (s : State) :
    s.timeStepStatus x = if s.monitor.quality = .unset then .conflict
      else if s.monitor.smallStepUsed then .limited
      else if ¬ (0 ≤ (s.clock : Int) + x ∧ (s.clock : Int) + x ≤ max48) then .range
      else .ok := if_neg fun size => size.elim moves (Nat.not_lt.2 small)

theorem State.setPort_timePayload (s : State) (p : Port) (t : PortState) : (s.setPort p t).timePayload = s.timePayload := by
  rw [State.timePayload, State.setPort_clock, State.setPort_monitor, State.timePayload]

theorem State.setPort_timeStepStatus (s : State) (p : Port) (t : PortState) (x : Int) :
    (s.setPort p t).timeStepStatus x = s.timeStepStatus x := by
  rw [State.timeStepStatus, State.setPort_clock, State.setPort_monitor, State.timeStepStatus]

/-- The code of the quality byte: 1 for SET, 0 for UNSET (log 28). -/
theorem State.timePayload_eq (s : State) :
    s.timePayload = leBytes 6 s.clock ++ [if s.monitor.quality = .set then (1 : Byte) else 0] := by
  rw [State.timePayload]
  cases s.monitor.quality <;> rfl

theorem State.serveTimeSet_refused {s : State} {value : BitVec 64} {status : Status}
    (judged : timeSetStatus s.monitor.quality value.toInt = status) (refuses : status ≠ .ok) (p : Port) (tag : Byte) :
    s.serveTimeSet p tag value = s.complete p 9 tag status 0 s.timePayload := by
  rw [State.serveTimeSet, judged, if_neg refuses]

theorem State.serveTimeStep_refused {s : State} {value : BitVec 64} {status : Status}
    (judged : s.timeStepStatus value.toInt = status) (refuses : status ≠ .ok) (p : Port) (tag : Byte) :
    s.serveTimeStep p tag value = s.complete p 9 tag status 0 s.timePayload := by
  rw [State.serveTimeStep, judged, if_neg refuses]

theorem State.serveTimeForm_bad {form : Byte} (bad : 2 ≤ form.toNat) (s : State) (p : Port) (tag : Byte)
    (value : BitVec 64) : s.serveTimeForm p tag form value = s.complete p 9 tag .range 0 s.timePayload := by
  obtain ⟨n, hn⟩ := Nat.exists_eq_add_of_le' bad
  rw [State.serveTimeForm, hn]
  rfl

section
variable {s : State} {p : Port} (takes : s.takesRequests p) {tag : Byte}
include takes

/-- A refused TIME request shows the clock as it stands. -/
theorem State.request_timeRefused {frame : List Byte} {status : Status} {act : State → State}
    (refuses : act (s.setPort p (s.takenPort p frame)) = (s.setPort p (s.takenPort p frame)).complete p 9 tag status 0
      (s.setPort p (s.takenPort p frame)).timePayload) :
    Answered p frame 9 tag status 0 (leBytes 6 s.clock ++ [if s.monitor.quality = .set then (1 : Byte) else 0]) s
      (s.request p frame act) := by
  rw [State.setPort_timePayload, State.timePayload_eq] at refuses
  exact State.request_answered takes refuses

theorem exec_timeSet_refused {value : BitVec 64} {status : Status}
    (judged : timeSetStatus s.monitor.quality value.toInt = status) (refuses : status ≠ .ok) :
    ∃ t, exec (.timeSet p tag value) s = .next t ∧ Answered p (requestFrame p 9 tag (0 :: leBytes 8 value.toNat)) 9 tag
      status 0 (leBytes 6 s.clock ++ [if s.monitor.quality = .set then (1 : Byte) else 0]) s t :=
  ⟨_, rfl, State.request_timeRefused takes
    (State.serveTimeSet_refused (by rw [State.setPort_monitor, judged]) refuses p tag)⟩

theorem exec_timeStep_refused {value : BitVec 64} {status : Status}
    (judged : s.timeStepStatus value.toInt = status) (refuses : status ≠ .ok) :
    ∃ t, exec (.timeStep p tag value) s = .next t ∧ Answered p (requestFrame p 9 tag (1 :: leBytes 8 value.toNat)) 9 tag
      status 0 (leBytes 6 s.clock ++ [if s.monitor.quality = .set then (1 : Byte) else 0]) s t :=
  ⟨_, rfl, State.request_timeRefused takes
    (State.serveTimeStep_refused (by rw [State.setPort_timeStepStatus, judged]) refuses p tag)⟩

end

/-! ### A change of time (R94, R95, R124, R125, R127) -/

/-- `t` is `s` after a change of time: only the store's queue, episode and pending operation, the aggregator, the clock and
the count of free values may differ. -/
def Retimed (s t : State) : Prop :=
  t = { s with
    store := { s.store with queue := t.store.queue, episode := t.store.episode, pendingOp := t.store.pendingOp },
    monitor := { s.monitor with
      offset := t.monitor.offset, quality := t.monitor.quality, smallStepUsed := t.monitor.smallStepUsed },
    aggregator := t.aggregator, freeCount := t.freeCount }

/-- Records that are not counted change the store and the count of free values alone. -/
theorem State.deliver_retimed {s t : State} (h : Retimed s t) {records : List Record}
    (uncounted : ∀ r ∈ records, r.cell = none) : Retimed s (t.deliver records) := by
  have rest := (t.deliver_recorded records).rest
  have store := (t.deliver_recorded records).store.rest
  rw [t.deliver_matrix records uncounted] at rest
  rw [Retimed] at h ⊢
  rw [rest, store, h]

theorem State.initialSet_retimed (s : State) (q : Port) (value : Int) : Retimed s (s.initialSet q value) := by
  refine State.deliver_retimed ?_ fun r mem => ?_
  · rw [Retimed, State.intervalInitial_rest]
  · obtain closed | stepped := List.mem_append.1 mem
    · exact State.intervalInitial_cells _ _ r closed
    · rw [List.mem_singleton.1 stepped]
      rfl

theorem State.smallStep_retimed (s : State) (q : Port) (x : Int) : Retimed s (s.smallStep q x) := by
  refine State.deliver_retimed ?_ fun r mem => ?_
  · rw [Retimed, State.intervalStep_rest]
  · obtain closed | stepped := List.mem_append.1 mem
    · exact State.intervalStep_cells _ _ r closed
    · rw [List.mem_singleton.1 stepped]
      rfl

/-- The reply to an accepted TIME request is an answer on the part with its time changed. -/
theorem State.request_retimed {s : State} {p : Port} (takes : s.takesRequests p) {frame : List Byte} {tag : Byte}
    {w : State} (retimed : Retimed s w) {act : State → State}
    (acts : act (s.setPort p (s.takenPort p frame)) = (w.setPort p (s.takenPort p frame)).complete p 9 tag .ok 0
      (w.setPort p (s.takenPort p frame)).timePayload) :
    Answered p frame 9 tag .ok 0 w.timePayload w (s.request p frame act) := by
  have port : w.port p = s.port p := by
    rw [retimed]
    cases p <;> rfl
  have same : w.takenPort p frame = s.takenPort p frame := State.takenPort_congr (by rw [retimed]) port frame
  rw [State.request_eq takes, acts, State.setPort_timePayload, ← same]
  exact w.complete_answered p frame 9 tag .ok 0 w.timePayload

theorem exec_timeSet_accepted {s : State} {p : Port} (takes : s.takesRequests p) {value : BitVec 64}
    (judged : timeSetStatus s.monitor.quality value.toInt = .ok) (tag : Byte) :
    ∃ t, exec (.timeSet p tag value) s = .next t ∧ Answered p (requestFrame p 9 tag (0 :: leBytes 8 value.toNat)) 9 tag .ok 0
      (s.initialSet p value.toInt).timePayload (s.initialSet p value.toInt) t := by
  refine ⟨_, rfl, State.request_retimed takes (s.initialSet_retimed p _) ?_⟩
  rw [State.serveTimeSet, State.setPort_monitor, judged, if_pos rfl, State.setPort_initialSet (s.takenPort_mark p _)]

theorem exec_timeStep_accepted {s : State} {p : Port} (takes : s.takesRequests p) {value : BitVec 64}
    (judged : s.timeStepStatus value.toInt = .ok) (tag : Byte) :
    ∃ t, exec (.timeStep p tag value) s = .next t ∧ Answered p (requestFrame p 9 tag (1 :: leBytes 8 value.toNat)) 9 tag .ok
      0 (s.smallStep p value.toInt).timePayload (s.smallStep p value.toInt) t := by
  refine ⟨_, rfl, State.request_retimed takes (s.smallStep_retimed p _) ?_⟩
  rw [State.serveTimeStep, State.setPort_timeStepStatus, judged, if_pos rfl, State.setPort_smallStep (s.takenPort_mark p _)]

theorem OnlyPorts.same {s t : State} (h : OnlyPorts s t) :
    t.monitor = s.monitor ∧ t.aggregator = s.aggregator ∧ t.store = s.store ∧ t.clock = s.clock := by
  rw [h]
  exact ⟨rfl, rfl, rfl, rfl⟩

/-- An answer on the part with its time changed, as seen from the part before. -/
theorem Answered.ofRetimed {p : Port} {frame : List Byte} {code tag : Byte} {status : Status} {own : Nat}
    {payload : List Byte} {s w t : State} (retimed : Retimed s w)
    (answered : Answered p frame code tag status own payload w t) :
    (t.port p).replyState = .ready ∧ (t.port p).reply = replyFrame p code tag status
        (replyFlags ((s.port p).overrun || (s.port p).replyState == .ready)
          ((s.port p).abandoned || (s.port p).replyState == .preparing) own) payload
      ∧ t.port p.other = s.port p.other ∧ t.bank = s.bank ∧ t.matrix = s.matrix
      ∧ t.reduction = s.reduction ∧ t.swell = s.swell ∧ t.store.array = s.store.array := by
  obtain ⟨only, other⟩ := answered.rest
  have port : ∀ q, w.port q = s.port q := fun q => by
    rw [retimed]
    cases q <;> rfl
  have answer := congrArg (State.port · p) answered
  rw [State.setPort_port, port] at answer
  have bank : w.bank = s.bank := by rw [retimed]
  have matrix : w.matrix = s.matrix := by rw [retimed]
  have reduction : w.reduction = s.reduction := by rw [retimed]
  have swell : w.swell = s.swell := by rw [retimed]
  have array : w.store.array = s.store.array := by rw [retimed]
  refine ⟨by rw [answer], by rw [answer], other.trans (port _), ?_⟩
  rw [only]
  exact ⟨bank, matrix, reduction, swell, array⟩

/-! ### The clock after it -/

theorem State.initialSet_monitor (s : State) (q : Port) (value : Int) :
    (s.initialSet q value).monitor = { s.monitor with
      offset := value - s.monitor.elapsed, quality := .set,
      smallStepUsed := (s.initialSet q value).monitor.smallStepUsed } := by
  rw [State.initialSet_eq, State.deliver_monitor, State.intervalInitial_rest]
  rfl

theorem State.smallStep_monitor (s : State) (q : Port) (x : Int) :
    (s.smallStep q x).monitor = { s.monitor with offset := s.monitor.offset + x, smallStepUsed := true } := by
  rw [State.smallStep_eq, State.deliver_monitor, State.intervalStep_rest]
  rfl

theorem State.initialSet_clock (s : State) (q : Port) (value : Int) :
    (s.initialSet q value).clock = (s.clockSet value).clock := by
  rw [State.clock, State.initialSet_monitor]
  rfl

theorem State.smallStep_clock (s : State) (q : Port) (x : Int) :
    (s.smallStep q x).clock = (s.clockStepped x).clock := by
  rw [State.clock, State.smallStep_monitor]
  rfl

theorem State.clockSet_clock {value : Int} (low : 0 ≤ value) (s : State) : ((s.clockSet value).clock : Int) = value := by
  simp only [State.clock, State.clockSet]
  omega

theorem State.clockStepped_clock {s : State} {x : Int} (sound : s.clockSound) (low : 0 ≤ (s.clock : Int) + x) :
    ((s.clockStepped x).clock : Int) = s.clock + x := by
  obtain ⟨_, before, _⟩ := sound
  simp only [State.clock, State.clockStepped] at low ⊢
  omega

theorem State.initialSet_timePayload {value : Int} (low : 0 ≤ value) (s : State) (q : Port) :
    (s.initialSet q value).timePayload = leBytes 6 value.toNat ++ [1] := by
  have clock : (s.initialSet q value).clock = value.toNat := by
    have moved := s.clockSet_clock low
    rw [← s.initialSet_clock q] at moved
    omega
  rw [State.timePayload_eq, clock, State.initialSet_monitor]
  rfl

theorem State.smallStep_timePayload {s : State} (quality : s.monitor.quality = .set) (q : Port) (x : Int) :
    (s.smallStep q x).timePayload = leBytes 6 (s.clockStepped x).clock ++ [1] := by
  rw [State.timePayload_eq, State.smallStep_clock, State.smallStep_monitor, quality]
  rfl

/-! ### The interval at it (R94, R95) -/

/-- The interval marked time adjusted (R93). -/
def Interval.adjusted (i : Interval) : Interval := { i with flags := { i.flags with timeAdjusted := true } }

/-- The part with an interval opened at the clock time after a change of time, with a last closed boundary. -/
def State.openedAfresh (s : State) (closed : Option Nat) : State :=
  ({ s with aggregator := { s.aggregator with lastClosed := closed } }.openInterval s.clock true false).setBoundary

/-- The last closed boundary is not past the clock, which alone sets the next one. -/
theorem State.openedAfresh_aggregator {s : State} {closed : Option Nat} (past : closed.getD 0 ≤ s.clock) :
    (s.openedAfresh closed).aggregator = {
      interval := some
        { start := s.now, minutes := s.bank.inForce.minutes, arrangement := s.arrangement, sums := .zero,
          flags := { eventOverlap := s.eventOpen, gapInside := s.gapOpen, supplyLost := false, timeAdjusted := true,
                     short := false, afterCommit := false } },
      freeze := none, lastClosed := closed, nextBoundary := boundaryAfter s.bank.inForce.minutes s.clock,
      skip := s.aggregator.skip } := by
  have later : max s.clock (closed.getD 0) = s.clock := Nat.max_eq_left past
  rw [← later]
  rfl

section
variable {s : State} {i : Interval} (interval : s.aggregator.interval = some i)
include interval

theorem State.markAdjusted_open :
    s.markAdjusted = { s with aggregator := { s.aggregator with interval := some i.adjusted } } := by
  rw [State.markAdjusted, Aggregator.onFlags, interval]
  rfl

variable (frozen : s.aggregator.freeze = none)
include frozen

theorem State.intervalInitial_open (before : Nat) :
    s.intervalInitial before = (s.openedAfresh none,
      [.interval (i.adjusted.record before s.monitor.elapsed s.tracker.nominal s.operator.mark s.consumer.mark)]) := by
  unfold State.intervalInitial
  rw [State.markAdjusted_open interval]
  refine if_pos ?_
  rw [Aggregator.isOpen, frozen]
  rfl

theorem State.intervalStep_reaching (reached : s.aggregator.nextBoundary ≤ s.clock) (before : Nat) :
    s.intervalStep before = (s.openedAfresh (some s.aggregator.nextBoundary),
      [.interval (i.adjusted.record before s.monitor.elapsed s.tracker.nominal s.operator.mark s.consumer.mark)]) := by
  unfold State.intervalStep
  rw [State.markAdjusted_open interval]
  refine (if_neg ?_).trans (if_pos reached)
  rw [Aggregator.isOpen, frozen]
  exact Bool.false_ne_true

theorem State.intervalStep_short (short : s.clock < s.aggregator.nextBoundary) (before : Nat) :
    s.intervalStep before =
      ({ s with aggregator := { s.aggregator with interval := some i.adjusted } }.setBoundary, []) := by
  unfold State.intervalStep
  rw [State.markAdjusted_open interval]
  refine (if_neg ?_).trans (if_neg (Nat.not_le.2 short))
  rw [Aggregator.isOpen, frozen]
  exact Bool.false_ne_true

end

theorem State.intervalInitial_lastClosed (s : State) (before : Nat) :
    (s.intervalInitial before).1.aggregator.lastClosed = none := by
  unfold State.intervalInitial
  dsimp only
  split <;> rfl

theorem State.initialSet_lastClosed (s : State) (q : Port) (value : Int) :
    (s.initialSet q value).aggregator.lastClosed = none := by
  rw [State.initialSet_eq, State.deliver_aggregator, State.intervalInitial_lastClosed]

/-! ### Two records with room (R105) -/

theorem State.finalize_store {s : State} {k : Nat} (room : s.store.RoomFor (k + 1)) (r : Record) :
    (s.finalize r).store = (s.store.enqueue r).settle := by
  rw [← room.takes s.now r]
  rfl

theorem State.finalize_pair {s : State} (room : s.store.RoomFor 2) (x y : Record) :
    ((s.finalize x).finalize y).store.queue = s.store.queue ++
      [{ number := s.store.newestAssigned + 1, record := x }, { number := s.store.newestAssigned + 2, record := y }] := by
  have rest : (s.finalize x).store.RoomFor 1 := room.rest s.now x
  rw [State.finalize_store rest, State.finalize_store room]
  simp [Store.enqueue, Store.newestAssigned, Nat.add_assoc]

/-- Two records made at one moment are queued in either order (log 7). -/
theorem State.deliver_pair {s : State} (room : s.store.RoomFor 2) (x y : Record) :
    let number := s.store.newestAssigned + 1
    (s.deliver [x, y]).store.queue = s.store.queue ++ [{ number := number, record := x }, { number := number + 1, record := y }]
    ∨ (s.deliver [x, y]).store.queue =
      s.store.queue ++ [{ number := number, record := y }, { number := number + 1, record := x }] := by
  obtain ⟨order, u, perm, store, delivered⟩ := s.deliver_order [x, y]
  rw [← store] at room ⊢
  rw [delivered]
  obtain rfl | rfl := List.perm_pair.1 perm
  · exact .inl (State.finalize_pair room x y)
  · exact .inr (State.finalize_pair room y x)

/-! ### What an accepted TIME request does to the interval and the queue -/

/-- The aggregator with an interval opened by a change of time at a clock time, and its last closed boundary (R94, R95). -/
def State.aggregatorAfresh (s : State) (clock : Nat) (closed : Option Nat) : Aggregator :=
  { interval := some
      { start := { clock := clock, elapsed := s.monitor.elapsed, quality := .set }, minutes := s.bank.inForce.minutes,
        arrangement := s.arrangement, sums := .zero,
        flags := { eventOverlap := s.eventOpen, gapInside := s.gapOpen, supplyLost := false, timeAdjusted := true,
                   short := false, afterCommit := false } },
    freeze := none, lastClosed := closed, nextBoundary := boundaryAfter s.bank.inForce.minutes clock,
    skip := s.aggregator.skip }

/-- The INTERVAL record of an interval that a change of time closes, at the clock time before it (R94, R95). -/
def State.adjustedRecord (s : State) (i : Interval) : Record :=
  .interval (i.adjusted.record s.clock s.monitor.elapsed s.tracker.nominal s.operator.mark s.consumer.mark)

/-- The TIMESTEP record of a change to a clock time (R127). -/
def State.changeRecord (s : State) (initial : Bool) (q : Port) (after : Nat) : Record :=
  .timestep { initial := initial, port := q, before := s.clock, after := after, elapsed := s.monitor.elapsed,
              quality := .set }

/-- A small step leaves the time quality SET, as its TIMESTEP record shows. -/
theorem State.clockStepped_record {s : State} (quality : s.monitor.quality = .set) (x : Int) (q : Port) :
    (s.clockStepped x).timestepRecord false q s.clock = s.changeRecord false q (s.clockStepped x).clock := by
  rw [State.changeRecord, ← quality]
  rfl

section
variable {s : State} {i : Interval} (interval : s.aggregator.interval = some i) (frozen : s.aggregator.freeze = none)
include interval frozen

theorem State.initialSet_open (q : Port) (value : Int) :
    s.initialSet q value = ((s.clockSet value).openedAfresh none).deliver
      [s.adjustedRecord i, s.changeRecord true q (s.clockSet value).clock] := by
  rw [State.initialSet_eq, State.intervalInitial_open (s := s.clockSet value) interval frozen]
  rfl

theorem State.initialSet_smallStepUsed (q : Port) (value : Int) :
    (s.initialSet q value).monitor.smallStepUsed = false := by
  rw [State.initialSet_open interval frozen, State.deliver_monitor]
  rfl

theorem State.initialSet_aggregator (q : Port) (value : Int) :
    (s.initialSet q value).aggregator = s.aggregatorAfresh (s.clockSet value).clock none := by
  rw [State.initialSet_open interval frozen, State.deliver_aggregator, State.openedAfresh_aggregator (Nat.zero_le _)]
  rfl

theorem State.initialSet_queue (room : s.store.RoomFor 2) (q : Port) (value : Int) :
    let number := s.store.newestAssigned + 1
    let closed := s.adjustedRecord i
    let stepped := s.changeRecord true q (s.clockSet value).clock
    (s.initialSet q value).store.queue =
        s.store.queue ++ [{ number := number, record := closed }, { number := number + 1, record := stepped }]
      ∨ (s.initialSet q value).store.queue =
        s.store.queue ++ [{ number := number, record := stepped }, { number := number + 1, record := closed }] := by
  rw [State.initialSet_open interval frozen]
  exact State.deliver_pair (s := (s.clockSet value).openedAfresh none) room _ _

variable (quality : s.monitor.quality = .set) {x : Int}
include quality

section
variable (reached : s.aggregator.nextBoundary ≤ (s.clockStepped x).clock)
include reached

theorem State.smallStep_reaching (q : Port) :
    s.smallStep q x = ((s.clockStepped x).openedAfresh (some s.aggregator.nextBoundary)).stepUsed.deliver
      [s.adjustedRecord i, s.changeRecord false q (s.clockStepped x).clock] := by
  rw [State.smallStep_eq, State.intervalStep_reaching (s := s.clockStepped x) interval frozen reached,
    State.clockStepped_record quality]
  rfl

theorem State.smallStep_aggregator_reaching (q : Port) : (s.smallStep q x).aggregator =
    s.aggregatorAfresh (s.clockStepped x).clock (some s.aggregator.nextBoundary) := by
  have opened := State.openedAfresh_aggregator (s := s.clockStepped x) (closed := some s.aggregator.nextBoundary) reached
  rw [State.smallStep_reaching interval frozen quality reached, State.deliver_aggregator, State.aggregatorAfresh, ← quality]
  exact opened

theorem State.smallStep_queue_reaching (room : s.store.RoomFor 2) (q : Port) :
    let number := s.store.newestAssigned + 1
    let closed := s.adjustedRecord i
    let stepped := s.changeRecord false q (s.clockStepped x).clock
    (s.smallStep q x).store.queue =
        s.store.queue ++ [{ number := number, record := closed }, { number := number + 1, record := stepped }]
      ∨ (s.smallStep q x).store.queue =
        s.store.queue ++ [{ number := number, record := stepped }, { number := number + 1, record := closed }] := by
  rw [State.smallStep_reaching interval frozen quality reached]
  exact State.deliver_pair
    (s := ((s.clockStepped x).openedAfresh (some s.aggregator.nextBoundary)).stepUsed) room _ _

end

section
variable (short : (s.clockStepped x).clock < s.aggregator.nextBoundary)
include short

theorem State.smallStep_short (q : Port) :
    s.smallStep q x = ({ s.clockStepped x with
        aggregator := { s.aggregator with interval := some i.adjusted } }.setBoundary.stepUsed).finalize
      (s.changeRecord false q (s.clockStepped x).clock) := by
  rw [State.smallStep_eq, State.intervalStep_short (s := s.clockStepped x) interval frozen short,
    State.clockStepped_record quality]
  rfl

theorem State.smallStep_aggregator_short (q : Port) : (s.smallStep q x).aggregator = { s.aggregator with
    interval := some i.adjusted,
    nextBoundary := boundaryAfter s.bank.inForce.minutes
      (max (s.clockStepped x).clock (s.aggregator.lastClosed.getD 0)) } := by
  rw [State.smallStep_short interval frozen quality short]
  rfl

theorem State.smallStep_queue_short (room : s.store.RoomFor 1) (q : Port) : (s.smallStep q x).store.queue =
    s.store.queue ++ [{ number := s.store.newestAssigned + 1,
                        record := s.changeRecord false q (s.clockStepped x).clock }] := by
  rw [State.smallStep_short interval frozen quality short]
  exact congrArg Store.queue (State.finalize_store (k := 0)
    (s := { s.clockStepped x with
      aggregator := { s.aggregator with interval := some i.adjusted } }.setBoundary.stepUsed) room _)

end

end

/-! ### Notify levels (R152) -/

theorem notifyLevel_eq (v : Nat) : notifyLevel v = if v < 1 then 1 else if 4096 < v then 4096 else v := by
  unfold notifyLevel
  split_ifs <;> omega

theorem State.setPort_notify_taken (s : State) (p : Port) (level : Nat) (frame : List Byte) :
    ((s.setPort p (s.takenPort p frame)).onPort p fun t => { t with notify := level }) =
      (s.setPort p { s.port p with notify := level }).setPort p
        ((s.setPort p { s.port p with notify := level }).takenPort p frame) := by
  have out : (s.setPort p { s.port p with notify := level }).bytesOut p frame.length = s.bytesOut p frame.length :=
    State.bytesOut_congr (by rw [State.setPort_monitor]) (by rw [State.setPort_port]) (by rw [State.setPort_port])
      (by rw [State.setPort_port]) _
  rw [State.onPort_eq, State.setPort_setPort, State.setPort_setPort, State.setPort_port, State.takenPort,
    State.takenPort, State.setPort_port, out]
  congr 1
  unfold PortState.taken
  cases (s.port p).replyState <;> rfl

/-- SET NOTIFY is answered on the part with the port's level set, and the lines are judged after it (R152, R169). -/
theorem State.request_setNotify {s : State} {p : Port} (takes : s.takesRequests p) (tag : Byte) (v : BitVec 16)
    (frame : List Byte) : ∃ u, Answered p frame 10 tag .ok 0 (leBytes 2 (notifyLevel v.toNat))
        (s.setPort p { s.port p with notify := notifyLevel v.toNat }) u
      ∧ (s.request p frame fun t => t.serveSetNotify p tag v) = u.finish := by
  refine ⟨_, State.complete_answered _ p frame 10 tag .ok 0 _, ?_⟩
  rw [State.request_eq takes, State.serveSetNotify, State.setPort_notify_taken]

/-- Settles O51. -/
theorem timeAndNotifyAnswered : Obligations.TimeAndNotifyAnswered := by
  intro p tag s takes quality shown refused replied room
  have fits : room → s.store.RoomFor 2 := fun ⟨normal, episode, queue, numbers⟩ => ⟨normal, episode, by omega, numbers⟩
  refine ⟨fun v => ⟨fun outside => ?setRange, fun low high isSet => ?setConflict, fun low high unset => ?setAccepted⟩,
    fun v => ⟨fun size => ?stepSize, fun moves small unset => ?stepUnset, fun moves small isSet used => ?stepUsed,
      fun moves small isSet unused outside => ?stepOutside, fun moves small isSet unused inside sound => ?stepAccepted⟩,
    fun form v bad => ?badForm, fun v => ?notify⟩
  case setRange => exact exec_timeSet_refused takes (timeSetStatus_outside outside) (by decide)
  case setConflict =>
    exact exec_timeSet_refused takes (by rw [timeSetStatus_inside low high, if_pos isSet]) (by decide)
  case setAccepted =>
    have judged : timeSetStatus s.monitor.quality v.toInt = .ok := by
      rw [timeSetStatus_inside low high, unset]
      rfl
    obtain ⟨t, does, answered⟩ := exec_timeSet_accepted takes judged tag
    obtain ⟨monitor, aggregator, store, clock⟩ := answered.rest.1.same
    rw [State.initialSet_clock] at clock
    have replies := Answered.ofRetimed (s.initialSet_retimed p v.toInt) answered
    rw [State.initialSet_timePayload low] at replies
    refine ⟨t, does, ?_, ?_, ?_, replies, ?_, fun i interval frozen fit => ?_⟩
    · rw [clock, State.clockSet_clock low]
    · rw [monitor, State.initialSet_monitor]
    · rw [monitor, State.initialSet_monitor]
    · rw [aggregator, State.initialSet_lastClosed]
    · rw [monitor, aggregator, store, clock]
      exact ⟨State.initialSet_smallStepUsed interval frozen p _, State.initialSet_aggregator interval frozen p _,
        State.initialSet_queue interval frozen (fits fit) p _⟩
  case stepSize => exact exec_timeStep_refused takes (State.timeStepStatus_size size) (by decide)
  case stepUnset =>
    exact exec_timeStep_refused takes (by rw [State.timeStepStatus_small moves small, if_pos unset]) (by decide)
  case stepUsed =>
    exact exec_timeStep_refused takes
      (by rw [State.timeStepStatus_small moves small, isSet, if_neg (by decide), if_pos used]) (by decide)
  case stepOutside =>
    exact exec_timeStep_refused takes
      (by rw [State.timeStepStatus_small moves small, isSet, unused, if_neg (by decide), if_neg (by decide), if_pos outside])
      (by decide)
  case stepAccepted =>
    have judged : s.timeStepStatus v.toInt = .ok := by
      rw [State.timeStepStatus_small moves small, isSet, unused, if_neg (by decide), if_neg (by decide), if_neg inside]
    obtain ⟨t, does, answered⟩ := exec_timeStep_accepted takes judged tag
    obtain ⟨monitor, aggregator, store, clock⟩ := answered.rest.1.same
    rw [State.smallStep_clock] at clock
    have replies := Answered.ofRetimed (s.smallStep_retimed p v.toInt) answered
    rw [State.smallStep_timePayload isSet, ← clock] at replies
    refine ⟨t, does, ?_, ?_, replies, fun i interval frozen fit short => ?_, fun i interval frozen fit reached => ?_⟩
    · rw [clock, State.clockStepped_clock sound (not_not.1 inside).1]
    · rw [monitor, State.smallStep_monitor]
    · rw [clock] at short
      rw [aggregator, store, clock]
      exact ⟨State.smallStep_queue_short interval frozen isSet short ((fits fit).fewer (by decide)) p,
        State.smallStep_aggregator_short interval frozen isSet short p⟩
    · rw [clock] at reached
      rw [aggregator, store, clock]
      exact ⟨State.smallStep_aggregator_reaching interval frozen isSet reached p,
        State.smallStep_queue_reaching interval frozen isSet reached (fits fit) p⟩
  case badForm => exact ⟨_, rfl, State.request_timeRefused takes (State.serveTimeForm_bad bad _ p tag v)⟩
  case notify =>
    intro level
    have level' : notifyLevel v.toNat = level := notifyLevel_eq _
    obtain ⟨u, answered, served⟩ := State.request_setNotify takes tag v (requestFrame p 10 tag (leBytes 2 v.toNat))
    rw [level'] at answered
    exact ⟨u.finish, u, congrArg Host.Outcome.next served, answered, u.finish_lineSound _, u.finish_lineSound _, rfl⟩

end Sys2Proof.Machine
end

section
/-! O33: no command takes the elapsed counter or clock time out of its range. -/

namespace Sys2Proof.Machine

open Sys2Proof

/-- From `s` to `t` the elapsed counter and clock time stay in their ranges (R123). -/
def KeepsClock (s t : State) : Prop := s.clockSound → t.clockSound

theorem KeepsClock.trans {s t u : State} (h : KeepsClock s t) (k : KeepsClock t u) : KeepsClock s u :=
  fun sound => k (h sound)

/-- `KeepsClock.trans` with its steps named from the last. -/
theorem KeepsClock.after {s t u : State} (k : KeepsClock t u) (h : KeepsClock s t) : KeepsClock s u := h.trans k

/-- Both clocks are the elapsed count and the offset alone. -/
theorem KeepsClock.sameTime {s t : State} (elapsed : t.monitor.elapsed = s.monitor.elapsed)
    (offset : t.monitor.offset = s.monitor.offset) : KeepsClock s t := fun sound => by
  rwa [State.clockSound, elapsed, offset]

theorem KeepsClock.refl (s : State) : KeepsClock s s := id

theorem KeepsClock.sameMonitor {s t : State} (h : t.monitor = s.monitor) : KeepsClock s t :=
  .sameTime (congrArg Monitor.elapsed h) (congrArg Monitor.offset h)

theorem Quiet.keepsClock {s t : State} (h : Quiet s t) : KeepsClock s t := .sameMonitor (by rw [h.rest])

/-! ### A tick (R123) -/

theorem State.countElapsed_elapsed_le (s : State) : s.countElapsed.monitor.elapsed ≤ max48 := by
  unfold State.countElapsed
  split
  next below => exact below
  next => exact Nat.le_pred_of_lt (Config.elapsedPastMax s.freeIndex).isLt

theorem State.keepClock_elapsed (s : State) : s.keepClock.monitor.elapsed = s.monitor.elapsed := by
  unfold State.keepClock
  dsimp only
  split <;> rfl

/-- The monitor leaves clock time in its range whatever it finds. -/
theorem State.keepClock_inside (s : State) :
    0 ≤ (s.keepClock.monitor.elapsed : Int) + s.keepClock.monitor.offset
      ∧ (s.keepClock.monitor.elapsed : Int) + s.keepClock.monitor.offset ≤ max48 := by
  unfold State.keepClock
  dsimp only
  split
  next inside => exact inside
  next =>
    have free := (Config.clockPastMax s.freeIndex).isLt
    simp only [max48]
    omega

theorem State.ticked_clockSound (s : State) : s.countElapsed.keepClock.clockSound :=
  ⟨by rw [State.keepClock_elapsed]; exact s.countElapsed_elapsed_le, s.countElapsed.keepClock_inside⟩

/-! ### A boundary and its commit (R126) -/

theorem State.commitNotices_keepsClock (s : State) (step : Option Int) : KeepsClock s (s.commitNotices step) := by
  unfold State.commitNotices
  split
  next seconds =>
    rintro ⟨elapsed, -, -⟩
    refine ⟨elapsed, ?_⟩
    simp only [State.commitNotice, State.setBoundary, State.jointStep, clamp, max48]
    omega
  next => exact .sameTime rfl rfl

theorem State.boundaryNotice_keepsClock (s : State) (boundary : Nat) : KeepsClock s (s.boundaryNotice boundary) := by
  unfold State.boundaryNotice
  split
  · dsimp only
    split
    · exact (KeepsClock.sameMonitor (by rw [State.commitEpoch_rest])).trans (State.commitNotices_keepsClock _ _)
    · exact (KeepsClock.sameMonitor (by rw [State.commitRecord_rest])).trans (State.commitNotices_keepsClock _ _)
  · exact .refl s

/-- The interval opened at a boundary reads the clock and moves none of it. -/
theorem State.openInterval_setBoundary_keepsClock (s : State) (boundary : Nat) :
    KeepsClock s (s.openInterval boundary false false).setBoundary := .sameTime rfl rfl

theorem State.takeBoundary_keepsClock (s : State) : KeepsClock s s.takeBoundary := by
  have closed : ∀ records aggregator, KeepsClock s { s.deliver records with aggregator := aggregator } :=
    fun _ _ => .sameMonitor (State.deliver_monitor _ _)
  unfold State.takeBoundary
  exact (closed _ _).trans ((State.openInterval_setBoundary_keepsClock _ _).trans
    ((State.boundaryNotice_keepsClock _ _).trans (State.finish_quiet _).keepsClock))

/-! ### A TIME request (R124, R125) -/

/-- A TIME SET is accepted only inside the range (R124). -/
theorem timeSetStatus_ok {quality : Quality} {t : Int} (h : timeSetStatus quality t = .ok) : 0 ≤ t ∧ t ≤ max48 := by
  by_contra outside
  rw [timeSetStatus_outside outside] at h
  cases h

/-- A TIME STEP is accepted only where clock time stays inside the range (R125). -/
theorem State.timeStepStatus_ok {s : State} {x : Int} (h : s.timeStepStatus x = .ok) :
    0 ≤ (s.clock : Int) + x ∧ (s.clock : Int) + x ≤ max48 := by
  unfold State.timeStepStatus at h
  split_ifs at h with size unset used inside
  exact inside

theorem State.serveTimeSet_keepsClock (s : State) (p : Port) (tag : Byte) (value : BitVec 64) :
    KeepsClock s (s.serveTimeSet p tag value) := by
  unfold State.serveTimeSet
  dsimp only
  refine KeepsClock.trans ?_ (State.complete_quiet _ _ _ _ _ _ _).keepsClock
  split
  next accepted =>
    obtain ⟨low, high⟩ := timeSetStatus_ok accepted
    rintro ⟨elapsed, -, -⟩
    rw [State.clockSound, State.initialSet_monitor]
    exact ⟨elapsed, by dsimp only; omega, by dsimp only; omega⟩
  next => exact .refl s

theorem State.serveTimeStep_keepsClock (s : State) (p : Port) (tag : Byte) (value : BitVec 64) :
    KeepsClock s (s.serveTimeStep p tag value) := by
  unfold State.serveTimeStep
  dsimp only
  refine KeepsClock.trans ?_ (State.complete_quiet _ _ _ _ _ _ _).keepsClock
  split
  next accepted =>
    obtain ⟨low, high⟩ := State.timeStepStatus_ok accepted
    rintro ⟨elapsed, before, -⟩
    rw [State.clock] at low high
    rw [State.clockSound, State.smallStep_monitor]
    exact ⟨elapsed, by dsimp only; omega, by dsimp only; omega⟩
  next => exact .refl s

/-- Of the requests only TIME touches the clock. -/
theorem State.serve_keepsClock (i : Instr) (s : State) : KeepsClock s (s.serve i) := by
  cases i
  case timeSet => exact s.serveTimeSet_keepsClock _ _ _
  case timeStep => exact s.serveTimeStep_keepsClock _ _ _
  case timeBadForm =>
    simp only [State.serve]
    unfold State.serveTimeForm
    split
    · exact s.serveTimeSet_keepsClock _ _ _
    · exact s.serveTimeStep_keepsClock _ _ _
    · exact (s.complete_quiet _ _ _ _ _ _).keepsClock
  case collect p tag number =>
    have marked : KeepsClock s (s.setMark p number.toNat) := .sameMonitor (State.onPort_monitor _ _ _)
    obtain h | h := s.serveCollect_cases p tag number
    · exact h.keepsClock
    · exact marked.trans h.keepsClock
  case status => exact (s.complete_quiet _ _ _ _ _ _).keepsClock
  case readRecords => exact (s.prepare_quiet _ _).keepsClock
  case readLive => exact (s.complete_quiet _ _ _ _ _ _).keepsClock
  case readMatrix => exact (s.complete_quiet _ _ _ _ _ _).keepsClock
  case readSettings => exact (s.serveReadSettings_quiet _ _ _ _).keepsClock
  case lodge => exact (s.serveLodge_quiet _ _ _).keepsClock
  case withdraw => exact (s.serveWithdraw_quiet _ _).keepsClock
  case setNotify => exact (s.serveSetNotify_quiet _ _ _).keepsClock
  case flush => exact (s.serveFlush_quiet _ _).keepsClock
  all_goals exact .refl s

theorem State.serveFrame_keepsClock (s : State) (p : Port) (bytes : List Byte) : KeepsClock s (s.serveFrame p bytes) := by
  unfold State.serveFrame
  split
  · exact (s.refuseFrame_quiet _ _ _ _).keepsClock
  · split
    · exact s.serve_keepsClock _
    · exact .refl s

theorem State.request_keepsClock (s : State) (p : Port) (frame : List Byte) {act : State → State}
    (h : ∀ t, KeepsClock t (act t)) : KeepsClock s (s.request p frame act) := by
  obtain ⟨t, quiet, e | e⟩ := s.request_cases p frame act
  · exact e ▸ quiet.keepsClock.trans (h t)
  · exact e ▸ quiet.keepsClock

theorem State.periodEnds_keepsClock (s : State) (p : Port) (bytes : List Byte) :
    KeepsClock s (s.periodEnds p bytes) := by
  unfold State.periodEnds
  split
  · exact (s.endPeriod_quiet _ _ _).keepsClock
  · split
    · exact (s.readEnds_quiet _ _).keepsClock
    · exact s.request_keepsClock _ _ fun t => t.serveFrame_keepsClock p bytes

theorem exec_request_keepsClock {i : Instr} {p : Port} {s t : State} (hp : senderOf i = some p) (h : exec i s = .next t) :
    KeepsClock s t := by
  have served : ∀ q frame, KeepsClock s (s.request q frame fun u => u.serve i) := fun q frame =>
    s.request_keepsClock q frame fun u => u.serve_keepsClock i
  cases i <;> simp only [senderOf, reduceCtorEq] at hp <;> injection h with h <;> subst h
  case readPeriod => exact (s.readEnds_quiet _ _).keepsClock
  case selectPeriodStart => exact (s.beginPeriod_quiet _).keepsClock
  case invalidRequestFrame => exact s.periodEnds_keepsClock _ _
  case lodge =>
    refine s.request_keepsClock _ _ fun u => ?_
    split
    · exact (u.serveLodge_quiet _ _ _).keepsClock
    · exact (u.refuseFrame_quiet _ _ _ _).keepsClock
  all_goals exact served _ _

/-! ### The supply, the reset line and the restart (R128 to R135) -/

theorem State.warn_keepsClock (s : State) : KeepsClock s s.warn := by
  rw [State.warn_rest]
  exact .sameTime rfl rfl

/-- A restart goes on in the time it met, but for a COLD one, which starts it from 0 (R134). -/
theorem State.beginRestart_keepsClock (s : State) (kind : RestartKind) (strap : Bool) :
    KeepsClock s (s.beginRestart kind strap) := by
  have started : KeepsClock s (if kind = .cold then s.coldStart else s) := by
    split
    · exact fun _ => ⟨Nat.zero_le _, Int.le_refl _, Int.natCast_nonneg _⟩
    · exact .refl s
  unfold State.beginRestart
  exact started.trans (.sameTime rfl rfl)

theorem State.holdByReset_keepsClock (s : State) : KeepsClock s s.holdByReset := by
  rw [s.holdByReset_eq]
  exact .sameTime rfl rfl

theorem State.endScan_keepsClock (s : State) (kind : RestartKind) : KeepsClock s (s.endScan kind) :=
  .sameTime (by rw [State.endScan_rest]) (by rw [State.endScan_rest])

theorem exec_supply_keepsClock {i : Instr} {s t : State} (hi : ofTheSupply i = true) (h : exec i s = .next t) :
    KeepsClock s t := by
  cases i <;> simp only [ofTheSupply, Bool.false_eq_true] at hi <;> injection h with h <;> subst h
  case supplyGoodFall =>
    split
    · exact .refl s
    · split
      · exact s.warn_keepsClock
      · exact s.stopScan_quiet.keepsClock.trans (State.warn_keepsClock _)
      all_goals exact .sameTime rfl rfl
  case storeHoldupDone => split; exacts [.sameTime rfl rfl, .refl s]
  case supplyCollapse =>
    split
    · exact (s.tear_quiet.trans (State.dropAreaWrites_quiet _)).keepsClock.trans (.sameTime rfl rfl)
    · exact .refl s
  case supplyGoodRise =>
    split
    · exact .refl s
    · split
      all_goals exact .sameTime rfl rfl
  case steadinessWaitDone => split; exacts [s.beginRestart_keepsClock _ _, .refl s]
  case powerUp =>
    have stopped := ((s.stopScan_quiet.trans (State.tear_quiet _)).trans (State.dropAreaWrites_quiet _)).trans
      (State.stopPorts_quiet _)
    exact stopped.keepsClock.trans (.sameTime rfl rfl)
  case retentionLoss => split; exacts [.sameTime rfl rfl, .refl s]
  case resetAssert =>
    split
    · exact .refl s
    · split
      · exact s.holdByReset_keepsClock
      · exact s.holdByReset_keepsClock
      all_goals exact .sameTime rfl rfl
  case resetRelease strap =>
    split
    · exact .refl s
    · refine KeepsClock.trans (t := { s with monitor := { s.monitor with resetHigh := true } }) (.sameTime rfl rfl) ?_
      unfold State.releaseReset
      split
      · exact State.beginRestart_keepsClock _ _ _
      · split
        · exact State.beginRestart_keepsClock _ _ _
        · exact .refl _
  case restartScanEnd =>
    split
    · split
      · exact .refl s
      · exact s.endScan_keepsClock _
    · exact .refl s

/-- Whatever the command, both clocks stay in their ranges. -/
theorem exec_keepsClock {i : Instr} {s t : State} (h : exec i s = .next t) : KeepsClock s t := by
  by_cases link : ofTheLink i = true
  · exact .sameMonitor (exec_measured link h).monitor
  by_cases supply : ofTheSupply i = true
  · exact exec_supply_keepsClock supply h
  by_cases quiet : worksQuietly i = true
  · exact (exec_quiet quiet h).keepsClock
  cases sender : senderOf i with
  | some p => exact exec_request_keepsClock sender h
  | none =>
    cases i <;> simp [ofTheLink, ofTheSupply, worksQuietly, senderOf] at link supply quiet sender
      <;> injection h with h <;> subst h
    case burstExpiry =>
      split; exacts [.sameMonitor (s.expireBurst_changes .monitor (by decide)), .refl s]
    case intervalBoundary => split; exacts [s.takeBoundary_keepsClock, .refl s]
    case recordWriteComplete =>
      split
      · exact (State.afterCompletion_quiet _).keepsClock.after (.sameTime rfl rfl)
      · exact .refl s
    case epochWriteComplete =>
      split
      · exact ((State.holdupWrite_quiet _).trans (State.finish_quiet _)).keepsClock.after (.sameTime rfl rfl)
      · exact .refl s
    case elapsedTick => split; exacts [.refl s, fun _ => s.ticked_clockSound]

/-- Settles O33. -/
theorem clockStaysInRange : Obligations.ClockStaysInRange :=
  fun _ _ _ sound h => exec_keepsClock h sound

end Sys2Proof.Machine
end

section
/-! O32: the tick, the supply line, the loss of retention and the power-up, each in every monitor state. -/

namespace Sys2Proof.Machine

open Sys2Proof

/-! ### The tick (R123, R132) -/

theorem State.countElapsed_below {s : State} (below : s.monitor.elapsed < max48) :
    s.countElapsed = { s with monitor := { s.monitor with elapsed := s.monitor.elapsed + 1 } } := if_pos below

/-- Clock time inside its range stands. -/
theorem State.keepClock_same {s : State} (low : 0 ≤ (s.monitor.elapsed : Int) + s.monitor.offset)
    (high : (s.monitor.elapsed : Int) + s.monitor.offset ≤ max48) : s.keepClock = s := if_pos ⟨low, high⟩

theorem exec_elapsedTick_counts {s : State} (counts : s.monitor.counterStopped = false) (below : s.monitor.elapsed < max48)
    (low : 0 ≤ (s.monitor.elapsed : Int) + 1 + s.monitor.offset)
    (high : (s.monitor.elapsed : Int) + 1 + s.monitor.offset ≤ max48) :
    exec .elapsedTick s = .next { s with monitor := { s.monitor with elapsed := s.monitor.elapsed + 1 } } := by
  show execElapsedTick s = _
  rw [execElapsedTick, counts, if_neg Bool.false_ne_true, State.countElapsed_below below, State.keepClock_same]
  · exact low
  · exact high

theorem exec_elapsedTick_stopped {s : State} (stopped : s.monitor.counterStopped = true) :
    exec .elapsedTick s = .next s := congrArg Host.Outcome.next (if_pos stopped)

/-! ### The supply line (R130) -/

/-- A rise raises the line, and starts the wait where the part is without supply. -/
theorem exec_supplyGoodRise_low {s : State} (low : s.monitor.supplyGood = false) :
    exec .supplyGoodRise s = .next { s with monitor := { s.monitor with
      supplyGood := true,
      waitEnd := if s.monitor.state = .holdup ∨ s.monitor.state = .retain then some (s.monitor.elapsed + 50)
        else s.monitor.waitEnd } } := by
  show execSupplyGoodRise s = _
  rw [execSupplyGoodRise, low, if_neg Bool.false_ne_true]
  cases s.monitor.state <;> rfl

theorem exec_supplyGoodRise_high {s : State} (high : s.monitor.supplyGood = true) : exec .supplyGoodRise s = .next s :=
  congrArg Host.Outcome.next (if_pos high)

/-- In HOLDUP and RETAIN a fall only cancels the wait (log 24). -/
theorem exec_supplyGoodFall_cancels {s : State} (high : s.monitor.supplyGood = true)
    (unsupplied : s.monitor.state = .holdup ∨ s.monitor.state = .retain) :
    exec .supplyGoodFall s = .next { s with monitor := { s.monitor with supplyGood := false, waitEnd := none } } := by
  show execSupplyGoodFall s = _
  rw [execSupplyGoodFall, high]
  obtain holdup | retain := unsupplied
  · rw [holdup]
    rfl
  · rw [retain]
    rfl

/-! ### Retention and power (R130, R132) -/

theorem exec_retentionLoss_retain {s : State} (retain : s.monitor.state = .retain) :
    exec .retentionLoss s = .next { s with monitor := { s.monitor with
      retentionValid := false, counterStopped := true } } :=
  congrArg Host.Outcome.next (if_pos retain)

theorem exec_retentionLoss_elsewhere {s : State} (elsewhere : s.monitor.state ≠ .retain) :
    exec .retentionLoss s = .next s := congrArg Host.Outcome.next (if_neg elsewhere)

/-- The part as it comes up: in RETAIN with the ports stopped and no operation in flight; the array and the count of free
values by the scan and the operation cut short (log 26). -/
theorem exec_powerUp_eq (s : State) :
    exec .powerUp s = .next { s with
      monitor := { s.monitor with
        state := .retain, retentionValid := false, supplyGood := false, waitEnd := none, restart := none,
        counterStopped := false, holdupComplete := false },
      store := { s.store with
        array := s.stopScan.tear.store.array, inFlight := none, scanned := false, pendingOp := none },
      bank := { s.bank with areaWrites := [] },
      operator := s.operator.stopped, consumer := s.consumer.stopped, freeCount := s.stopScan.tear.freeCount } := by
  show execPowerUp s = _
  rw [execPowerUp, s.stopScan.tear_rest]
  generalize s.stopScan.tear.store.array = array
  generalize s.stopScan.tear.freeCount = count
  rw [s.stopScan_rest]
  rfl

/-- Settles O32. -/
theorem ticksAndLinesInEveryState : Obligations.TicksAndLinesInEveryState := fun s =>
  ⟨Int.toNat_of_nonneg, exec_elapsedTick_counts, exec_elapsedTick_stopped, exec_supplyGoodRise_low,
    exec_supplyGoodRise_high, exec_supplyGoodFall_cancels, exec_retentionLoss_retain, exec_retentionLoss_elsewhere,
    _, exec_powerUp_eq s, rfl, rfl, rfl, rfl, rfl, rfl, rfl, rfl, rfl, rfl, rfl, rfl, rfl⟩

end Sys2Proof.Machine
end

section
/-! The supply-fail warning, part by part: the records it hands over, and what it makes of each block. -/

namespace Sys2Proof.Machine

open Sys2Proof

/-! ### The warning in steps (R74, R128) -/

/-- What the opening notice of a warning makes of the builder (R47, R73). -/
def State.warnBuilt (s : State) (now : Stamp) : Builder × Option Record :=
  if (reductionWarning s.considered now s.estimator.ring s.reduction).2 then s.builder.notice else (s.builder, none)

/-- The records that a warning hands over: an open gap's, a full builder's and an open swell's (R53, R56, R73). -/
def State.warnRecords (s : State) (now : Stamp) : List Record :=
  ((s.gap.ending now.clock now.elapsed).map Record.gap).toList ++ (s.warnBuilt now).2.toList
    ++ ((swellWarning s.arrangement now s.swell).map Record.swell).toList

/-- The part as the warning reaches its blocks, before those records are handed over. -/
def State.warnIssued (s : State) (now : Stamp) : State :=
  State.stopPorts { s with
    reduction := some (reductionWarning s.considered now s.estimator.ring s.reduction).1, swell := none, gap := .closed,
    builder := (s.warnBuilt now).1, aggregator := s.aggregator.freezeSupply now, monitor := s.monitor.warned now }

/-- The part after an overdue expiry and the warning's own records, before the store's holdup begins. -/
def State.warnDelivered (s : State) : State :=
  ((s.settleBurst s.monitor.elapsed).warnIssued s.now).deliver ((s.settleBurst s.monitor.elapsed).warnRecords s.now)

theorem State.warn_eq (s : State) : s.warn = s.warnDelivered.holdupWrite.finish := rfl

theorem State.warnDelivered_monitor (s : State) : s.warnDelivered.monitor = s.monitor.warned s.now := by
  rw [State.warnDelivered, State.deliver_monitor]
  show (s.settleBurst _).monitor.warned s.now = _
  rw [State.settleBurst_monitor]

/-! ### The blocks beside the records -/

/-- R128: the outage note is that of the first failure. -/
theorem Monitor.warned_eq (m : Monitor) (now : Stamp) :
    m.warned now = { m with
      state := .holdup, outageNote := some (m.outageNote.getD now), holdupComplete := false, restart := none,
      supplyGood := false, waitEnd := none } := by
  unfold Monitor.warned
  cases m.outageNote <;> rfl

theorem State.warn_reduction (s : State) :
    s.warn.reduction = some (reductionWarning s.considered s.now s.estimator.ring s.reduction).1 := by
  rw [State.warn_eq, State.finish_reduction, State.holdupWrite_rest]
  show s.warnDelivered.reduction = _
  rw [State.warnDelivered, State.deliver_reduction]
  show some (reductionWarning (s.settleBurst _).considered _ _ _).1 = _
  rw [State.considered, State.arrangement, State.settleBurst_bank, State.settleBurst_estimator,
    State.settleBurst_reduction]
  rfl

/-- Whatever the context was, it is in SUPPLY_LOST (R47). -/
theorem reductionWarning_state (c : PhaseSet) (now : Stamp) (ring : List RingEntry) (context : Option Reduction) :
    (reductionWarning c now ring context).1.state = .supplyLost := by
  cases context with
  | none => rfl
  | some x =>
    rw [reductionWarning]
    cases state : x.state
    case supplyLost => exact state
    all_goals rfl

theorem reductionWarning_lost {x : Reduction} (lost : x.state = .supplyLost) (c : PhaseSet) (now : Stamp)
    (ring : List RingEntry) : (reductionWarning c now ring (some x)).1 = x := by
  rw [reductionWarning, lost]

/-- R47: an event open in DIP enters its interruption part; one in INTERRUPTED is in it already. -/
theorem reductionWarning_open {x : Reduction} (supplied : x.state ≠ .supplyLost) (c : PhaseSet) (now : Stamp)
    (ring : List RingEntry) :
    (reductionWarning c now ring (some x)).1 = { x with
      state := .supplyLost, phases := x.phases.union c, residual := 0, spannedLoss := true,
      residualPhase := if 0 < x.residual then .a else x.residualPhase,
      interruption := if x.state = .interrupted then x.interruption
        else some (enterInterruption x.interruption now.elapsed) } := by
  rw [reductionWarning]
  cases state : x.state
  case supplyLost => exact absurd state supplied
  all_goals rfl

/-- R97: an OPEN interval is frozen with cause SUPPLY. -/
theorem Aggregator.freezeSupply_open {a : Aggregator} {i : Interval} (interval : a.interval = some i)
    (frozen : a.freeze = none) (now : Stamp) : a.freezeSupply now = { a with
      interval := some { i with flags := { i.flags with supplyLost := true, eventOverlap := true } },
      freeze := some { clock := now.clock, elapsed := now.elapsed, cause := .supply } } := by
  simp only [Aggregator.freezeSupply, Aggregator.onFlags, interval, frozen]
  rfl

/-- R160: both ports are stopped, and no line is asserted in HOLDUP. -/
theorem State.warn_port (s : State) (p : Port) : s.warn.port p = (s.port p).stopped := by
  have stopped : s.warnDelivered.port p = (s.port p).stopped := by
    rw [State.warnDelivered, State.deliver_port]
    cases p <;> simp [State.warnIssued, State.stopPorts, State.port]
  have written : s.warnDelivered.holdupWrite.port p = s.warnDelivered.port p := by
    rw [State.holdupWrite_rest]
    cases p <;> rfl
  have released : (s.warn.port p).attention = false := by
    rw [State.warn_eq, (State.lineSound_iff _ p).1 (State.finish_lineSound _ p), State.attentionDue, State.running,
      State.finish_monitor, State.holdupWrite_rest, State.warnDelivered_monitor]
    rfl
  rw [State.warn_eq] at released ⊢
  rw [State.finish_port, released, written, stopped]
  rfl

/-- The settings, the receiver, the tracker, the engine and the ring take no part in a warning. -/
theorem State.warn_stands (s : State) : s.warn.bank = s.bank ∧ s.warn.link = s.link ∧ s.warn.tracker = s.tracker
    ∧ s.warn.engine = s.engine ∧ s.warn.estimator = s.estimator := by
  rw [State.warn_rest]
  exact ⟨rfl, rfl, rfl, rfl, rfl⟩

/-- The store took records and began its holdup (R116). -/
theorem State.warn_store (s : State) : s.warn.store = { s.store with
    queue := s.warn.store.queue, episode := s.warn.store.episode, pendingOp := s.warn.store.pendingOp,
    inFlight := s.warn.store.inFlight } := by
  have takes : StoreTakes s.store s.warnDelivered.store := (s.settleBurst_measured _).store.trans
    (((s.settleBurst s.monitor.elapsed).warnIssued s.now).deliver_recorded _).store
  rw [State.warn_eq, State.finish_store, State.holdupWrite_rest, takes.rest]
  rfl

/-- A warning commits nothing, and changes neither the epoch nor the array. -/
theorem State.warn_store_stands (s : State) : s.warn.store.newest = s.store.newest ∧ s.warn.store.epoch = s.store.epoch
    ∧ s.warn.store.array = s.store.array := by
  rw [State.warn_store]
  exact ⟨rfl, rfl, rfl⟩

/-! ### The records of a warning -/

/-- With an event open, or fewer than 8 members, the notice leaves every member in the builder (R73). -/
theorem State.warnBuilt_kept {s : State} (room : ¬ (s.reduction = none ∧ 8 ≤ s.builder.members.length)) (now : Stamp) :
    (s.warnBuilt now).1.members = s.builder.members ∧ (s.warnBuilt now).2 = none := by
  rw [State.warnBuilt, reductionWarning_opens]
  cases context : s.reduction with
  | some x => exact ⟨rfl, rfl⟩
  | none =>
    have fewer : ¬ 8 ≤ s.builder.members.length := fun full => room ⟨context, full⟩
    rw [Option.isNone_none, if_pos rfl]
    by_cases empty : s.builder.members = []
    · rw [Builder.notice_empty empty]
      exact ⟨rfl, rfl⟩
    · rw [Builder.notice_some (List.length_pos_iff.2 empty) (by omega)]
      exact ⟨rfl, rfl⟩

/-- A full builder is finalized as an event opens (R73). -/
theorem State.warnBuilt_full {s : State} (idle : s.reduction = none) (full : 8 ≤ s.builder.members.length) (now : Stamp) :
    s.warnBuilt now = ({ members := [], timer := none }, some (.burst s.builder.members)) := by
  rw [State.warnBuilt, reductionWarning_opens, idle, Option.isNone_none, if_pos rfl, Builder.notice_full full]

theorem State.warnRecords_built {s : State} (swell : s.swell = none) (gap : s.gap.opened = none) (now : Stamp) :
    s.warnRecords now = (s.warnBuilt now).2.toList := by
  rw [State.warnRecords, GapContext.ending_closed gap, swell]
  exact List.append_nil _

/-- R53. -/
theorem State.warnRecords_swell {s : State} {w : Swell} (swell : s.swell = some w) (gap : s.gap.opened = none)
    (room : ¬ (s.reduction = none ∧ 8 ≤ s.builder.members.length)) (now : Stamp) :
    s.warnRecords now = [.swell (w.lost.record s.arrangement now.clock now.elapsed)] := by
  rw [State.warnRecords, GapContext.ending_closed gap, (s.warnBuilt_kept room now).2, swell]
  rfl

/-- R56. -/
theorem State.warnRecords_gap {s : State} {g : OpenGap} (swell : s.swell = none) (gap : s.gap.opened = some g)
    (room : ¬ (s.reduction = none ∧ 8 ≤ s.builder.members.length)) (now : Stamp) :
    s.warnRecords now = [.gap (g.record now.clock now.elapsed)] := by
  rw [State.warnRecords, (s.warnBuilt_kept room now).2, swell, GapContext.ending, gap]
  rfl

/-! ### What becomes of the records (R78, R105) -/

/-- `t` is the part after `s` with one record counted and taken by the store, as far as the matrix, the commit queue and
the episode say. -/
structure TakesOne (s t : State) (r : Record) : Prop where
  matrix : t.matrix = countRecord s.matrix r
  queue : t.store.queue = (s.store.take s.now r).queue
  episode : t.store.episode = (s.store.take s.now r).episode

/-- The store's holdup leaves the builder, the matrix, the queue and the episode as the records left them. -/
theorem State.warn_delivered (s : State) : s.warn.builder = s.warnDelivered.builder
    ∧ s.warn.matrix = s.warnDelivered.matrix ∧ s.warn.store.queue = s.warnDelivered.store.queue
    ∧ s.warn.store.episode = s.warnDelivered.store.episode := by
  rw [State.warn_eq, State.finish_store, State.holdupWrite_rest]
  exact ⟨rfl, rfl, rfl, rfl⟩

/-- A warning with no overdue burst and one record of its own. -/
theorem State.warn_takesOne {s : State} {r : Record} (settled : s.settleBurst s.monitor.elapsed = s)
    (records : s.warnRecords s.now = [r]) : TakesOne s s.warn r := by
  obtain ⟨-, matrix, queue, episode⟩ := s.warn_delivered
  have delivered : s.warnDelivered = (s.warnIssued s.now).finalize r := by
    rw [State.warnDelivered, settled, records, State.deliver_one]
  rw [delivered] at matrix queue episode
  exact ⟨matrix, queue, episode⟩

theorem State.warnDelivered_none {s : State} (records : (s.settleBurst s.monitor.elapsed).warnRecords s.now = []) :
    s.warnDelivered = (s.settleBurst s.monitor.elapsed).warnIssued s.now := by
  rw [State.warnDelivered, records, State.deliver_nil]

/-- A warning with no overdue burst and nothing to finalize hands no record over. -/
theorem State.warnDelivered_unrecorded {s : State} (settled : s.settleBurst s.monitor.elapsed = s)
    (room : ¬ (s.reduction = none ∧ 8 ≤ s.builder.members.length)) (swell : s.swell = none) (gap : s.gap.opened = none) :
    s.warnDelivered = s.warnIssued s.now := by
  have records : s.warnRecords s.now = [] := by
    rw [State.warnRecords_built swell gap, (s.warnBuilt_kept room s.now).2]
    rfl
  rw [State.warnDelivered_none (by rw [settled, records]), settled]

/-- R74: the record of an overdue burst is taken as the burst expires, and the warning's notice finds the builder EMPTY. -/
theorem State.warn_overdue {s : State} {e : Nat} {r : Record} (run : s.monitor.state = .run)
    (timer : s.builder.timer = some e) (past : e < s.monitor.elapsed) (record : burstRecord s.builder.members = some r)
    (swell : s.swell = none) (gap : s.gap.opened = none) :
    s.warn.builder = { members := [], timer := none } ∧ TakesOne s s.warn r := by
  obtain ⟨builder, matrix, queue, episode⟩ := s.warn_delivered
  have expired : s.settleBurst s.monitor.elapsed = s.expireBurst := State.settleBurst_overdue run timer past
  have eq := State.expireBurst_eq record
  have built : s.expireBurst.warnBuilt s.now = ({ members := [], timer := none }, none) := by
    rw [State.warnBuilt, eq, Builder.notice_empty rfl]
    exact ite_self _
  have records : (s.settleBurst s.monitor.elapsed).warnRecords s.now = [] := by
    rw [State.warnRecords_built (by rw [State.settleBurst_swell, swell]) (by rw [State.settleBurst_gap, gap]), expired,
      built]
    rfl
  rw [State.warnDelivered_none records, expired] at builder matrix queue episode
  have emptied : (s.expireBurst.warnIssued s.now).builder = { members := [], timer := none } := congrArg Prod.fst built
  refine ⟨builder.trans emptied, ?_⟩
  rw [eq] at matrix queue episode
  exact ⟨matrix, queue, episode⟩

/-- A full builder's BURST is taken as the warning opens an event (R73). -/
theorem State.warn_full {s : State} (settled : s.settleBurst s.monitor.elapsed = s) (idle : s.reduction = none)
    (full : 8 ≤ s.builder.members.length) (swell : s.swell = none) (gap : s.gap.opened = none) :
    s.warn.builder = { members := [], timer := none } ∧ TakesOne s s.warn (.burst s.builder.members) := by
  have built := s.warnBuilt_full idle full s.now
  refine ⟨?_, State.warn_takesOne settled (by rw [State.warnRecords_built swell gap, built]; rfl)⟩
  obtain ⟨builder, -⟩ := s.warn_delivered
  rw [builder, State.warnDelivered, State.deliver_builder, settled]
  exact congrArg Prod.fst built

/-- R116: in HOLDUP with the array idle a head that fits in the current block is written. -/
theorem State.holdupWrite_starts {s : State} {e : Entry} {rest : List Entry} (holdup : s.monitor.state = .holdup)
    (scanned : s.store.scanned = true) (idle : s.store.inFlight = none) (works : s.store.state ≠ .resetting)
    (head : s.store.queue = e :: rest) (fits : s.store.wpSlot + e.record.slots ≤ 128) :
    s.holdupWrite.store.inFlight = some (.recordWrite
      (e.record.bytes e.number (e.record.chainAfter e.number s.store.newestChain))
      (e.record.chainAfter e.number s.store.newestChain)) := by
  have fit : s.store.headFits = true := by
    rw [Store.headFits, head]
    exact decide_eq_true (Nat.le_sub_of_add_le' fits)
  rw [State.holdupWrite, if_pos ⟨holdup, scanned, by rw [idle]; rfl, works, fit⟩]
  simp only [Store.startWrite, head]

end Sys2Proof.Machine
end

section
/-! O34: a fall of supply-good in RUN or RESTARTING issues the warning; in RESTARTING it stops a scan first. -/

namespace Sys2Proof.Machine

open Sys2Proof

/-! ### The scan stopped (R118) -/

/-- The part with the array and the operation in flight that a stopped scan leaves. -/
def State.scanStopped (s : State) (array : Memory) (flight : Option InFlight) (count : Nat) : State :=
  { s with store := { s.store with array := array, inFlight := flight }, freeCount := count }

/-- In RUN there is no scan to stop. -/
theorem State.stopScan_cases (s : State) : ∃ array flight count, s.stopScan = s.scanStopped array flight count
    ∧ (s.monitor.state = .run → array = s.store.array ∧ flight = s.store.inFlight) := by
  refine ⟨_, _, _, s.stopScan_rest, fun run => ?_⟩
  rw [State.stopScan_idle (by rw [run]; decide)]
  exact ⟨rfl, rfl⟩

theorem Store.take_array (t : Store) (array : Memory) (flight : Option InFlight) (now : Stamp) (r : Record) :
    Store.take { t with array := array, inFlight := flight } now r =
      { t.take now r with array := array, inFlight := flight } := by
  show (if t.accepts then _ else _) = _
  unfold Store.take
  split <;> rfl

/-- A stopped scan has no part in how a record is taken. -/
theorem TakesOne.ofStopped {s t : State} {array : Memory} {flight : Option InFlight} {count : Nat} {r : Record}
    (h : TakesOne (s.scanStopped array flight count) t r) : TakesOne s t r := by
  obtain ⟨matrix, queue, episode⟩ := h
  rw [State.scanStopped, Store.take_array] at queue episode
  exact ⟨matrix, queue, episode⟩

theorem exec_supplyGoodFall_warns {s : State} (high : s.monitor.supplyGood = true)
    (supplied : s.monitor.state = .run ∨ s.monitor.state = .restarting) :
    exec .supplyGoodFall s = .next s.stopScan.warn := by
  show execSupplyGoodFall s = _
  rw [execSupplyGoodFall, high]
  obtain run | restarting := supplied
  · rw [run, State.stopScan_idle (by rw [run]; decide)]
    rfl
  · rw [restarting]
    rfl

/-- A burst whose expiry time has not passed, or that is met outside RUN, stands (R74, R75). -/
theorem State.settleBurst_early {s : State} {elapsed : Nat}
    (early : ¬ (s.monitor.state = .run ∧ ∃ e, s.builder.timer = some e ∧ e < elapsed)) : s.settleBurst elapsed = s := by
  refine if_neg fun due => ?_
  obtain ⟨run, past⟩ := Bool.and_eq_true_iff.1 due
  refine early ⟨of_decide_eq_true run, ?_⟩
  rw [Builder.overdueAt] at past
  split at past
  next => exact absurd past Bool.false_ne_true
  next e timer => exact ⟨e, timer, of_decide_eq_true past⟩

/-- Settles O34. -/
theorem warningIssued : Obligations.WarningIssued := by
  intro s high supplied
  obtain ⟨array, flight, count, stops, same⟩ := s.stopScan_cases
  let u := s.scanStopped array flight count
  have does : exec .supplyGoodFall s = .next u.warn := by
    rw [exec_supplyGoodFall_warns high supplied, stops]
  obtain ⟨bank, link, tracker, engine, estimator⟩ := u.warn_stands
  obtain ⟨newest, epoch, kept⟩ := u.warn_store_stands
  refine ⟨u.warn, does, (congrArg State.monitor u.warn_rest).trans (Monitor.warned_eq _ _),
    ⟨(reductionWarning s.considered s.now s.estimator.ring s.reduction).1, u.warn_reduction,
      reductionWarning_state _ _ _ _, fun idle => ?opens, fun x context lost => ?stays, fun x context open' => ?enters⟩,
    congrArg State.swell u.warn_rest, congrArg State.gap u.warn_rest,
    fun i interval frozen =>
      (congrArg State.aggregator u.warn_rest).trans (Aggregator.freezeSupply_open interval frozen _),
    fun p => (u.warn_port p).trans (by cases p <;> rfl), bank, link, tracker, engine, estimator, newest, epoch,
    fun run => kept.trans (same run).1, ?records⟩
  case opens =>
    rw [idle]
    exact ⟨rfl, rfl, rfl, rfl, rfl, rfl, rfl, rfl⟩
  case stays => rw [context, reductionWarning_lost lost]
  case enters =>
    rw [context, reductionWarning_open open']
    unfold enterInterruption
    cases x.interruption with
    | none => rfl
    | some part => rfl
  case records =>
    intro overdue full
    have settled (early : ¬ overdue) : u.settleBurst u.monitor.elapsed = u := State.settleBurst_early early
    refine ⟨fun swell gap either first others members => ?burst, fun early room gap w swell => ?swell,
      fun early room swell g gap => ?gap, fun early room swell gap => ?unrecorded⟩
    case burst =>
      intro r
      have record : burstRecord u.builder.members = some r := members ▸ burstRecord_cons first others
      have taken : u.warn.builder = { members := [], timer := none } ∧ TakesOne u u.warn r := by
        by_cases late : overdue
        · obtain ⟨run, e, timer, past⟩ := late
          exact State.warn_overdue run timer past record swell gap
        · obtain ⟨idle, eight⟩ := either.resolve_left late
          have burst := burstRecord_burst (Nat.le_trans (by decide) eight)
          rw [← Option.some.inj (burst.symm.trans record)]
          exact State.warn_full (settled late) idle eight swell gap
      obtain ⟨builder, took⟩ := taken
      obtain ⟨matrix, queue, episode⟩ := took.ofStopped
      exact ⟨builder, matrix, queue, episode⟩
    case swell =>
      obtain ⟨matrix, queue, episode⟩ :=
        (State.warn_takesOne (settled early) (State.warnRecords_swell swell gap room _)).ofStopped
      exact ⟨matrix, queue, episode⟩
    case gap =>
      obtain ⟨matrix, queue, episode⟩ :=
        (State.warn_takesOne (settled early) (State.warnRecords_gap swell gap room _)).ofStopped
      exact ⟨matrix, queue, episode⟩
    case unrecorded =>
      have issued : u.warnDelivered = u.warnIssued u.now := State.warnDelivered_unrecorded (settled early) room swell gap
      obtain ⟨builder, matrix, queue, episode⟩ := u.warn_delivered
      rw [issued] at builder matrix queue episode
      refine ⟨matrix, queue, episode, (congrArg Builder.members builder).trans (u.warnBuilt_kept room u.now).1,
        fun e behind run scanned works idle head fits => ⟨_, _, ?_, rfl, rfl⟩⟩
      have written : u.warn.store.inFlight = (u.warnIssued u.now).holdupWrite.store.inFlight := by
        rw [State.warn_eq, issued, State.finish_store, Store.settle_inFlight]
      exact written.trans
        (State.holdupWrite_starts (s := u.warnIssued u.now) rfl scanned ((same run).2.trans idle) works head fits)

end Sys2Proof.Machine
end

section
/-! O36: a completed wait or a rise of the reset line begins a restart, and what each kind of restart keeps. -/

namespace Sys2Proof.Machine

open Sys2Proof

/-! ### The start of a restart (R133 to R135) -/

/-- The monitor with a restart of a kind under way and the strap sampled against the area (R135 step 1). -/
def Monitor.restarted (m : Monitor) (kind : RestartKind) (strap : Bool) (area : Area) : Monitor :=
  { m with
    state := .restarting, restart := some kind, waitEnd := none, strap60 := strap,
    strapChanged := area.strap == some (! strap) }

/-- A restart other than a COLD one keeps all of retention memory (R134). -/
theorem State.beginRestart_warm {kind : RestartKind} (warm : kind ≠ .cold) (s : State) (strap : Bool) :
    s.beginRestart kind strap = { s with
      tracker := { s.tracker with nominal := nominalOf strap },
      monitor := s.monitor.restarted kind strap s.bank.areaAhead,
      bank := { s.bank with areaWrites := s.bank.areaWrites ++ [{ strap := some strap }] },
      store := s.store.settle,
      operator := { s.operator with attention := false }, consumer := { s.consumer with attention := false } } := by
  rw [State.beginRestart, if_neg warm]
  rfl

/-- A COLD restart starts afresh at once what R134 does not keep. -/
theorem State.beginRestart_cold (s : State) (strap : Bool) :
    s.beginRestart .cold strap = { s.coldStart with
      tracker := { s.tracker with nominal := nominalOf strap },
      monitor := s.coldStart.monitor.restarted .cold strap s.bank.areaAhead,
      bank := { s.bank with areaWrites := s.bank.areaWrites ++ [{ strap := some strap }] },
      store := s.coldStart.store.settle,
      operator := { s.operator with notify := 1, attention := false },
      consumer := { s.consumer with notify := 1, attention := false } } := by
  rw [State.beginRestart, if_pos rfl]
  rfl

/-! ### The wait and the lines (R130, R131) -/

theorem State.waitOver_reached {s : State} {w : Nat} (retain : s.monitor.state = .retain)
    (good : s.monitor.supplyGood = true) (ends : s.monitor.waitEnd = some w) (reached : w ≤ s.monitor.elapsed) :
    s.waitOver = true := by
  rw [State.waitOver, retain, good, ends]
  simp [reached]

/-- What keeps a wait from being over: the state, the supply, no wait, or a running counter short of its end (R130). -/
theorem State.waitOver_not {s : State} (h : s.monitor.state ≠ .retain ∨ s.monitor.supplyGood = false
    ∨ s.monitor.waitEnd = none
    ∨ (s.monitor.counterStopped = false ∧ ∃ w, s.monitor.waitEnd = some w ∧ s.monitor.elapsed < w)) :
    s.waitOver = false := by
  rw [State.waitOver]
  obtain elsewhere | low | unset | ⟨counts, w, ends, short⟩ := h
  · rw [beq_false_of_ne elsewhere]
    rfl
  · rw [low, Bool.and_false]
    rfl
  · rw [unset, Bool.and_false]
  · rw [ends, counts]
    simp [short]

/-- The part with the reset line high (R131). -/
def State.lineRaised (s : State) : State := { s with monitor := { s.monitor with resetHigh := true } }

theorem State.lineRaised_high {s : State} (high : s.monitor.resetHigh = true) : s.lineRaised = s := by
  rw [State.lineRaised, ← high]

theorem exec_steadinessWaitDone_over {s : State} (ended : s.waitOver = true) (high : s.monitor.resetHigh = true)
    (strap : Bool) : exec (.steadinessWaitDone strap) s = .next (s.lineRaised.beginRestart (s.kindFor .warm) strap) := by
  show execSteadinessWaitDone strap s = _
  rw [execSteadinessWaitDone, ended, high, State.lineRaised_high high]
  rfl

theorem exec_steadinessWaitDone_early {s : State} (h : s.waitOver = false ∨ s.monitor.resetHigh = false) (strap : Bool) :
    exec (.steadinessWaitDone strap) s = .next s := by
  refine congrArg Host.Outcome.next (if_neg fun due => ?_)
  obtain ⟨ended, high⟩ := Bool.and_eq_true_iff.1 due
  obtain early | low := h
  · exact Bool.false_ne_true (early.symm.trans ended)
  · exact Bool.false_ne_true (low.symm.trans high)

theorem exec_resetRelease_low {s : State} (low : s.monitor.resetHigh = false) (strap : Bool) :
    exec (.resetRelease strap) s = .next (s.lineRaised.releaseReset strap) := by
  refine congrArg Host.Outcome.next (if_neg ?_)
  rw [low]
  exact Bool.false_ne_true

theorem State.releaseReset_held {s : State} (held : s.monitor.state = .restarting) (idle : s.monitor.restart = none)
    (strap : Bool) : s.releaseReset strap = s.beginRestart (s.kindFor .line) strap := if_pos ⟨held, idle⟩

theorem State.releaseReset_over {s : State} (ended : s.waitOver = true) (retain : s.monitor.state = .retain)
    (strap : Bool) : s.releaseReset strap = s.beginRestart (s.kindFor .warm) strap := by
  rw [State.releaseReset, if_neg, if_pos ended]
  rw [retain]
  exact fun held => absurd held.1 (by decide)

theorem State.releaseReset_idle {s : State} (free : s.monitor.state ≠ .restarting ∨ s.monitor.restart.isSome = true)
    (waits : s.waitOver = false) (strap : Bool) : s.releaseReset strap = s := by
  rw [State.releaseReset, if_neg, waits, if_neg Bool.false_ne_true]
  rintro ⟨held, idle⟩
  rw [idle] at free
  exact free.elim (fun elsewhere => elsewhere held) Bool.false_ne_true

/-- Settles O36. -/
theorem restartBegins : Obligations.RestartBegins := by
  intro strap s begun
  have begins : ∀ kind, begun kind (s.lineRaised.beginRestart kind strap) := by
    intro kind
    by_cases cold : kind = .cold
    · subst cold
      rw [State.beginRestart_cold]
      exact ⟨rfl, rfl, rfl, rfl, rfl, rfl, rfl, rfl, rfl, rfl, rfl, rfl, rfl, rfl, rfl, rfl, rfl, rfl,
        fun warm => absurd rfl warm,
        fun _ => ⟨rfl, rfl, rfl, rfl, rfl, rfl, rfl, rfl, rfl, rfl, rfl, rfl, rfl, rfl, rfl, rfl⟩⟩
    · rw [State.beginRestart_warm cold]
      exact ⟨rfl, rfl, rfl, rfl, rfl, rfl, rfl, rfl, rfl, rfl, rfl, rfl, rfl, rfl, rfl, rfl, rfl, rfl,
        fun _ => ⟨rfl, rfl, rfl, rfl, rfl, rfl, rfl, rfl, rfl, rfl, rfl, rfl, rfl, rfl, rfl⟩,
        fun is => absurd is cold⟩
  refine ⟨fun w retain good high ends reached => ?wait, fun idle => ?early, fun low held none => ?line,
    fun w low retain good ends reached => ?release, fun low free waits => ?level, fun high => ?high⟩
  case wait =>
    exact ⟨_, exec_steadinessWaitDone_over (State.waitOver_reached retain good ends reached) high strap, begins _⟩
  case early =>
    refine exec_steadinessWaitDone_early ?_ strap
    obtain elsewhere | unsupplied | low | waits := idle
    · exact .inl (State.waitOver_not (.inl elsewhere))
    · exact .inl (State.waitOver_not (.inr (.inl unsupplied)))
    · exact .inr low
    · exact .inl (State.waitOver_not (.inr (.inr waits)))
  case line =>
    refine ⟨_, exec_resetRelease_low low strap, ?_⟩
    rw [State.releaseReset_held (s := s.lineRaised) held none]
    exact begins _
  case release =>
    refine ⟨_, exec_resetRelease_low low strap, ?_⟩
    have ended : s.lineRaised.waitOver = true := State.waitOver_reached (s := s.lineRaised) retain good ends reached
    rw [State.releaseReset_over ended retain]
    exact begins _
  case level =>
    rw [exec_resetRelease_low low, State.releaseReset_idle (s := s.lineRaised) free (State.waitOver_not waits)]
    rfl
  case high => exact congrArg Host.Outcome.next (if_pos high)

end Sys2Proof.Machine
end

section
/-! O29: a write of the settings area replaces the fields it names. -/

namespace Sys2Proof.Machine

open Sys2Proof

/-- A reset note placed in the drain's last phase opens the erase phase at block 0 (R113, R114). -/
theorem Store.noteWritten_ends {t : Store} (phase : t.resetPhase = some .noteWrite) (note : ResetNote) :
    t.noteWritten (some note) = { t with resetPhase := some (.erasing note 0), oldest := none } := by
  unfold Store.noteWritten
  split
  next placed _ => cases placed; rfl
  next other => exact absurd phase (other note rfl)

theorem Store.noteWritten_none (t : Store) : t.noteWritten none = t := rfl

theorem Store.noteWritten_rest (t : Store) (note : Option ResetNote) :
    t.noteWritten note =
      { t with resetPhase := (t.noteWritten note).resetPhase, oldest := (t.noteWritten note).oldest } := by
  unfold Store.noteWritten
  split <;> rfl

theorem exec_areaWriteComplete {s : State} {w : AreaWrite} {rest : List AreaWrite} (writes : s.bank.areaWrites = w :: rest) :
    exec .areaWriteComplete s = .next (s.completeAreaWrite w rest) := by
  refine congrArg Host.Outcome.next ?_
  rw [writes]

theorem State.completeAreaWrite_store (s : State) (w : AreaWrite) (rest : List AreaWrite) :
    (s.completeAreaWrite w rest).store = (s.store.noteWritten (w.note.getD none)).settle := rfl

/-- Of the store only the reset phase, oldest stored and the pending operation follow a write of the area. -/
theorem State.completeAreaWrite_store_rest (s : State) (w : AreaWrite) (rest : List AreaWrite) :
    (s.completeAreaWrite w rest).store = { s.store with
      resetPhase := (s.completeAreaWrite w rest).store.resetPhase, oldest := (s.completeAreaWrite w rest).store.oldest,
      pendingOp := (s.completeAreaWrite w rest).store.pendingOp } := by
  rw [State.completeAreaWrite_store]
  unfold Store.settle
  rw [Store.noteWritten_rest]

/-- A field of the area whose write may name it: the value named, or the one that stood (R140). -/
theorem getD_named_or_kept {α : Type} (named : Option α) (kept : α) :
    (∀ x, named = some x → named.getD kept = x) ∧ (named = none → named.getD kept = kept) := by
  cases named
  · exact ⟨nofun, fun _ => rfl⟩
  · exact ⟨fun _ => Option.some.inj, nofun⟩

/-- The strap note of the area, which may be absent before its first write (R140). -/
theorem or_named_or_kept {α : Type} (named kept : Option α) :
    (∀ x, named = some x → named.or kept = some x) ∧ (named = none → named.or kept = kept) := by
  cases named
  · exact ⟨nofun, fun _ => rfl⟩
  · exact ⟨fun _ => id, nofun⟩

/-- Settles O29: the area field by field, and the store by whether the write places the reset note. -/
theorem areaWriteReplacesNamedFields : Obligations.AreaWriteReplacesNamedFields := by
  intro s w rest writes
  have frame := s.completeAreaWrite_rest w rest
  rw [s.completeAreaWrite_store_rest w rest] at frame
  obtain ⟨values, noValues⟩ := getD_named_or_kept w.values s.bank.area.values
  obtain ⟨epoch, noEpoch⟩ := getD_named_or_kept w.epoch s.bank.area.epoch
  obtain ⟨change, noChange⟩ := getD_named_or_kept w.lastChange s.bank.area.lastChange
  obtain ⟨applied, noApplied⟩ := getD_named_or_kept w.lastApplied s.bank.area.lastApplied
  obtain ⟨strap, noStrap⟩ := or_named_or_kept w.strap s.bank.area.strap
  obtain ⟨note, noNote⟩ := getD_named_or_kept w.note s.bank.area.note
  obtain ⟨mark, noMark⟩ := getD_named_or_kept w.resetMark s.bank.area.resetMark
  refine ⟨_, exec_areaWriteComplete writes, rfl, frame, values, noValues, epoch, noEpoch, change, noChange, applied,
    noApplied, strap, noStrap, note, noNote, mark, noMark, fun placed named phase => ?placed, fun absent => ?other⟩
  case placed =>
    rw [State.completeAreaWrite_store, named, Option.getD_some, Store.noteWritten_ends phase]
    exact ⟨rfl, rfl⟩
  case other =>
    rw [State.completeAreaWrite_store, absent, Option.getD_none, Store.noteWritten_none]
    exact ⟨rfl, rfl⟩

end Sys2Proof.Machine
end

section
/-! The two proposal slots: their states, the slots byte, and when they are MATCHED (R142, R175). -/

namespace Sys2Proof.Machine

open Sys2Proof

/-! ### Sets of changes -/

theorem sameChanges_comm (xs ys : List Change) : sameChanges xs ys = sameChanges ys xs := by
  rw [Bool.eq_iff_iff]
  simp only [sameChanges, Bool.and_eq_true, beq_iff_eq, and_assoc, eq_comm (a := xs.length)]
  exact and_congr_right fun _ => and_comm

/-- Lists without an index twice hold the same set of pairs exactly when each pair of one is in the other. -/
theorem sameChanges_iff {xs ys : List Change} (distinct : (xs.map Change.index).Nodup)
    (distinct' : (ys.map Change.index).Nodup) : sameChanges xs ys = true ↔ ∀ c, c ∈ xs ↔ c ∈ ys := by
  simp only [sameChanges, Bool.and_eq_true, beq_iff_eq, List.all_eq_true, List.contains_iff_mem]
  constructor
  · rintro ⟨⟨-, left⟩, right⟩ c
    exact ⟨left c, right c⟩
  · intro same
    have perm : xs.Perm ys := (List.perm_ext_iff_of_nodup distinct.of_map distinct'.of_map).2 same
    exact ⟨⟨perm.length_eq, fun c => (same c).1⟩, fun c => (same c).2⟩

/-! ### The states of the slots -/

/-- Seen from either port: both slots hold a proposal, and the two hold the same set of pairs. -/
theorem Bank.matched_iff (b : Bank) (p : Port) : b.matched = true ↔ ∃ x y, b.slot p = some x
    ∧ b.slot p.other = some y ∧ sameChanges y.changes x.changes = true := by
  have operator : b.matched = true ↔ ∃ x y, b.operatorSlot = some x ∧ b.consumerSlot = some y
      ∧ sameChanges x.changes y.changes = true := by
    unfold Bank.matched
    split
    next x y hx hy => simp [hx, hy]
    next none => exact ⟨fun h => absurd h Bool.false_ne_true, fun ⟨x, y, hx, hy, _⟩ => absurd hy (none x y hx)⟩
  rw [operator]
  cases p
  · simp only [sameChanges_comm, Port.other, Bank.slot]
  · rw [exists_comm]
    exact exists₂_congr fun x y => and_left_comm

theorem Bank.matched_of_empty {b : Bank} {p : Port} (empty : b.slot p = none) : b.matched = false := by
  rw [Bool.eq_false_iff, Ne, b.matched_iff p, empty]
  rintro ⟨x, y, held, -⟩
  cases held

theorem Bank.slotCode_empty {b : Bank} {p : Port} (empty : b.slot p = none) : b.slotCode p = 0 := by
  rw [Bank.slotCode, empty]

theorem Bank.slotCode_held {b : Bank} {p : Port} {x : Proposal} (held : b.slot p = some x) :
    b.slotCode p = if b.matched then 2 else 1 := by
  rw [Bank.slotCode, held]

/-- With one slot empty nothing matches, so a proposal in the other is LODGED. -/
theorem Bank.slotCode_other_of_empty {b : Bank} {p : Port} (empty : b.slot p = none) :
    b.slotCode p.other = if (b.slot p.other).isSome then 1 else 0 := by
  rw [Bank.slotCode, Bank.matched_of_empty empty]
  cases b.slot p.other <;> rfl

theorem Bank.slotCode_le (b : Bank) (p : Port) : b.slotCode p ≤ 2 := by
  unfold Bank.slotCode
  split
  · decide
  · split <;> decide

theorem Bank.slotsByte_toNat (b : Bank) : b.slotsByte.toNat = b.slotCode .operator + 4 * b.slotCode .consumer := by
  have operator := b.slotCode_le .operator
  have consumer := b.slotCode_le .consumer
  rw [Bank.slotsByte, packed, BitVec.toNat_ofNat]
  omega

/-! ### A slot changed by a request -/

/-- A request that changes the bank and completes its reply is answered on the part with that bank. -/
theorem State.complete_onBank_answered (s : State) (bank : Bank) (p : Port) (frame : List Byte) (code tag : Byte)
    (status : Status) (own : Nat) (payload : List Byte) :
    Answered p frame code tag status own payload { s with bank := bank }
      ({ s.setPort p (s.takenPort p frame) with bank := bank }.complete p code tag status own payload) := by
  have taken : { s.setPort p (s.takenPort p frame) with bank := bank }
      = State.setPort { s with bank := bank } p (State.takenPort { s with bank := bank } p frame) := by
    cases p <;> rfl
  rw [taken]
  exact State.complete_answered _ p frame code tag status own payload

end Sys2Proof.Machine
end

section
/-! O50: WITHDRAW empties its own port's slot. -/

namespace Sys2Proof.Machine

open Sys2Proof

/-- The reply to a WITHDRAW is completed on the part with the port's slot empty, and the lines are judged after it. -/
theorem State.request_withdraw {s : State} {p : Port} (takes : s.takesRequests p) (tag : Byte) (frame : List Byte) :
    ∃ u, Answered p frame 8 tag .ok 0 [(s.bank.setSlot p none).slotsByte] { s with bank := s.bank.setSlot p none } u
      ∧ (s.request p frame fun t => t.serveWithdraw p tag) = u.finish := by
  refine ⟨_, s.complete_onBank_answered _ p frame 8 tag .ok 0 _, ?_⟩
  rw [State.request_eq takes, State.serveWithdraw, State.setPort_bank]

/-- Settles O50. -/
theorem withdrawAnswered : Obligations.WithdrawAnswered := by
  intro p tag s takes
  obtain ⟨u, answered, served⟩ := State.request_withdraw takes tag (requestFrame p 8 tag [])
  have bank : u.finish.bank = s.bank.setSlot p none := by
    rw [State.finish_bank, congrArg State.bank answered.rest.1]
  have own : (s.bank.setSlot p none).slot p = none := Bank.setSlot_slot _ _ _
  have other : (s.bank.setSlot p none).slot p.other = s.bank.slot p.other := Bank.setSlot_slot_other _ _ _
  refine ⟨u.finish, u, (s.bank.setSlot p none).slotsByte, congrArg Host.Outcome.next served, ?_⟩
  rw [bank]
  refine ⟨answered, rfl, own, other, Bank.slotCode_empty own, ?_, Bank.slotsByte_toNat _, u.finish_lineSound _,
    u.finish_lineSound _, rfl⟩
  rw [Bank.slotCode_other_of_empty own, other]

end Sys2Proof.Machine
end

section
/-! O49: LODGE is refused by the first check it fails, and otherwise fills its port's slot. -/

namespace Sys2Proof.Machine

open Sys2Proof

/-! ### The checks of R143 -/

/-- The ranges of R139, by index: what R143 check 1 admits under a current epoch. -/
def Admits (epoch k : Nat) (v : Int) : Prop :=
  (k = 1 ∧ 4000 ≤ v ∧ v ≤ 16000) ∨ (k = 2 ∧ 1000 ≤ v ∧ v ≤ 16000) ∨ (k = 3 ∧ 5000 ≤ v ∧ v ≤ 9500)
    ∨ (k = 4 ∧ 10500 ≤ v ∧ v ≤ 15000) ∨ (k = 5 ∧ 100 ≤ v ∧ v ≤ 1000) ∨ (k = 6 ∧ 0 ≤ v ∧ v ≤ 500)
    ∨ (k = 7 ∧ v ∈ ([1, 3, 5, 10, 15, 30, 60] : List Int)) ∨ (k = 8 ∧ 0 ≤ v ∧ v ≤ 60000)
    ∨ (k = 9 ∧ 7 ≤ v ∧ v ≤ 366) ∨ (k = 10 ∧ 100 ≤ v ∧ v ≤ 5000) ∨ (k = 11 ∧ 10 ≤ v ∧ v ≤ 2000)
    ∨ (k = 12 ∧ (v = 1 ∨ v = 3)) ∨ (k = 13 ∧ -315360000 ≤ v ∧ v ≤ 315360000 ∧ v ≠ 0)
    ∨ (k = 14 ∧ epoch < 65535 ∧ v = (epoch : Int) + 1)

theorem inRange_iff (epoch : Nat) (c : Change) : inRange epoch c = true ↔ Admits epoch c.index c.value := by
  obtain ⟨k, v⟩ := c
  by_cases step : k = 13
  · subst step
    simp [inRange, Admits]
  by_cases reset : k = 14
  · subst reset
    exact decide_eq_true_iff.trans (by simp [Admits, max16])
  · rw [inRange, if_neg step, if_neg reset]
    unfold standingInRange Admits
    split <;> simp_all

theorem repeatsIndex_eq_false_iff (changes : List Change) :
    repeatsIndex changes = false ↔ (changes.map Change.index).Nodup := by
  induction changes with
  | nil => exact ⟨fun _ => List.nodup_nil, fun _ => rfl⟩
  | cons c rest ih =>
    rw [repeatsIndex, Bool.or_eq_false_iff, ih, List.map_cons, List.nodup_cons]
    exact and_congr_left fun _ => by simp

/-- What checks 2 to 4 of R143 ask of changes laid over the settings in force. -/
def Settings.Fits (set : Settings) (changes : List Change) : Prop :=
  (changes.map Change.index).Nodup ∧ ((∃ c ∈ changes, c.index = 14) → changes.length = 1)
    ∧ laidOver set changes 5 + laidOver set changes 6 < laidOver set changes 3
    ∧ laidOver set changes 3 + laidOver set changes 6 < 10000
    ∧ 10000 < laidOver set changes 4 - laidOver set changes 6

section
variable {set : Settings} {epoch : Nat} {changes : List Change}

theorem lodgeStatus_outside
    (outside : ¬ (1 ≤ changes.length ∧ changes.length ≤ 8 ∧ ∀ c ∈ changes, Admits epoch c.index c.value)) :
    lodgeStatus set epoch changes = .range := by
  refine if_pos ?_
  rw [← not_and_or, and_assoc, List.all_eq_true]
  simpa only [inRange_iff] using outside

theorem lodgeStatus_inside (few : 1 ≤ changes.length) (fits : changes.length ≤ 8)
    (ranges : ∀ c ∈ changes, Admits epoch c.index c.value) :
    (set.Fits changes → lodgeStatus set epoch changes = .ok)
      ∧ (¬ set.Fits changes → lodgeStatus set epoch changes = .conflict) := by
  have inside : changes.all (inRange epoch) = true :=
    List.all_eq_true.2 fun c hc => (inRange_iff epoch c).2 (ranges c hc)
  have reset : (changes.any fun c => c.index == 14) = true ↔ ∃ c ∈ changes, c.index = 14 := by simp
  have thresholds : thresholdsConsistent (laidOver set changes 3) (laidOver set changes 4) (laidOver set changes 5)
      (laidOver set changes 6) = true ↔ laidOver set changes 5 + laidOver set changes 6 < laidOver set changes 3
        ∧ laidOver set changes 3 + laidOver set changes 6 < 10000
        ∧ 10000 < laidOver set changes 4 - laidOver set changes 6 := decide_eq_true_iff
  rw [lodgeStatus, if_neg (by simp only [few, fits, inside, and_self, not_true_eq_false, or_self, not_false_eq_true])]
  split_ifs with repeated beside inconsistent
  · refine ⟨fun ⟨distinct, _⟩ => ?_, fun _ => rfl⟩
    exact absurd (((repeatsIndex_eq_false_iff changes).2 distinct).symm.trans repeated) Bool.false_ne_true
  · exact ⟨fun ⟨_, alone, _⟩ => absurd (alone (reset.1 beside.1)) beside.2, fun _ => rfl⟩
  · refine ⟨fun ⟨_, _, consistent⟩ => ?_, fun _ => rfl⟩
    rw [thresholds.2 consistent] at inconsistent
    exact absurd inconsistent Bool.false_ne_true
  · refine ⟨fun _ => rfl, fun clash => absurd ⟨?distinct, fun held => ?alone, ?consistent⟩ clash⟩
    case distinct => exact (repeatsIndex_eq_false_iff changes).1 (Bool.eq_false_iff.2 repeated)
    case alone => exact by_contra fun more => beside ⟨reset.2 held, more⟩
    case consistent => exact thresholds.1 (by simpa only [Bool.not_eq_true', Bool.not_eq_false] using inconsistent)

end

/-! ### The pairs of a frame as changes -/

theorem RawPair.change_indexes_nodup (pairs : List RawPair) :
    ((pairs.map RawPair.change).map Change.index).Nodup ↔ (pairs.map RawPair.index).Nodup := by
  have numbers : (pairs.map RawPair.change).map Change.index = (pairs.map RawPair.index).map BitVec.toNat := by
    rw [List.map_map, List.map_map]
    rfl
  rw [numbers]
  exact List.nodup_map_iff fun _ _ => BitVec.eq_of_toNat_eq

theorem RawPair.change_index_eq (r : RawPair) : (RawPair.change r).index = 14 ↔ r.index = 14 :=
  ⟨fun h => BitVec.eq_of_toNat_eq h, fun h => congrArg BitVec.toNat h⟩

theorem RawPair.change_resets (pairs : List RawPair) :
    (∃ c ∈ pairs.map RawPair.change, c.index = 14) ↔ ∃ r ∈ pairs, r.index = 14 := by
  simp only [List.mem_map, exists_exists_and_eq_and, RawPair.change_index_eq]

theorem laidOver_changes (set : Settings) (pairs : List RawPair) (k : Nat) :
    laidOver set (pairs.map RawPair.change) k =
      match pairs.find? fun r => r.index.toNat == k with
      | some r => r.value.toInt
      | none => set.value k := by
  have found : (pairs.map RawPair.change).find? (fun c => c.index == k)
      = (pairs.find? fun r => r.index.toNat == k).map RawPair.change := List.find?_map
  rw [laidOver, changeFor, found]
  cases pairs.find? fun r => r.index.toNat == k <;> rfl

/-! ### The requests -/

section
variable {s : State} {p : Port} {pairs : List RawPair} (takes : s.takesRequests p) (frames : pairs.length ≤ framePairs)
include takes frames

/-- A LODGE that fails a check is answered with the check's status and changes nothing else (R143). -/
theorem exec_lodge_refused {status : Status}
    (judged : lodgeStatus s.bank.inForce s.bank.currentEpoch (pairs.map RawPair.change) = status) (refused : status ≠ .ok)
    (tag : Byte) :
    ∃ t, exec (.lodge p tag pairs) s = .next t ∧ Answered p (lodgeFrame p tag pairs) 7 tag status 0 [] s t := by
  refine ⟨_, rfl, State.request_answered takes ?_⟩
  rw [if_pos frames, State.serveLodge, State.setPort_bank, judged]
  exact if_neg refused

/-- A LODGE that passes the checks is answered on the part with the port's slot filled, and the lines are judged after
it (R142, R169). -/
theorem exec_lodge_accepted
    (judged : lodgeStatus s.bank.inForce s.bank.currentEpoch (pairs.map RawPair.change) = .ok) (tag : Byte) :
    let bank := s.bank.setSlot p (some (proposalAt s.monitor.elapsed (pairs.map RawPair.change)))
    ∃ u, Answered p (lodgeFrame p tag pairs) 7 tag .ok 0 [bank.slotsByte] { s with bank := bank } u
      ∧ exec (.lodge p tag pairs) s = .next u.finish := by
  refine ⟨_, s.complete_onBank_answered _ p _ 7 tag .ok 0 _, congrArg Host.Outcome.next ?_⟩
  rw [State.request_eq takes, if_pos frames, State.serveLodge, State.setPort_bank, judged, if_pos rfl]
  simp only [State.setPort_monitor]

end

/-- A slot just filled is LODGED or MATCHED, and MATCHED exactly when the other slot holds the same set of pairs. -/
theorem Bank.slotCode_filled (b : Bank) (p : Port) (x : Proposal) :
    ((b.setSlot p (some x)).slotCode p = 1 ∨ (b.setSlot p (some x)).slotCode p = 2)
      ∧ ((b.setSlot p (some x)).slotCode p = 2 ↔
        ∃ y, b.slot p.other = some y ∧ sameChanges y.changes x.changes = true) := by
  have filled : (b.setSlot p (some x)).slot p = some x := Bank.setSlot_slot _ _ _
  have matched : (b.setSlot p (some x)).matched = true ↔
      ∃ y, b.slot p.other = some y ∧ sameChanges y.changes x.changes = true := by
    rw [Bank.matched_iff _ p, filled, Bank.setSlot_slot_other]
    simp
  rw [← matched, Bank.slotCode_held filled]
  cases (b.setSlot p (some x)).matched <;> decide

/-- Settles O49: the checks of R143 in their order, and the slot that an accepted LODGE fills. -/
theorem lodgeAnswered : Obligations.LodgeAnswered := by
  intro p tag pairs s takes frames epoch admitted rangeOk laid noConflict changes frame
  have length : changes.length = pairs.length := List.length_map _
  have ranges : rangeOk ↔ 1 ≤ changes.length ∧ changes.length ≤ 8 ∧ ∀ c ∈ changes, Admits epoch c.index c.value := by
    rw [length, List.forall_mem_map]
    exact Iff.rfl
  have conflicts : noConflict ↔ s.bank.inForce.Fits changes := by
    have laidOver_eq : ∀ k, laidOver s.bank.inForce changes k = laid k := laidOver_changes s.bank.inForce pairs
    have distinct : (changes.map Change.index).Nodup ↔ (pairs.map RawPair.index).Nodup :=
      RawPair.change_indexes_nodup pairs
    have reset : (∃ c ∈ changes, c.index = 14) ↔ ∃ r ∈ pairs, r.index = 14 := RawPair.change_resets pairs
    rw [Settings.Fits, distinct, reset, length, laidOver_eq, laidOver_eq, laidOver_eq, laidOver_eq]
  refine ⟨fun outside => ?range, fun inside clash => ?conflict, fun inside fits => ?accepted⟩
  case range =>
    exact exec_lodge_refused takes frames (lodgeStatus_outside (outside ∘ ranges.2)) (by decide) tag
  case conflict =>
    obtain ⟨few, enough, admits⟩ := ranges.1 inside
    exact exec_lodge_refused takes frames ((lodgeStatus_inside few enough admits).2 (clash ∘ conflicts.2)) (by decide) tag
  case accepted =>
    obtain ⟨few, enough, admits⟩ := ranges.1 inside
    have fit := conflicts.1 fits
    obtain ⟨u, answered, does⟩ := exec_lodge_accepted takes frames ((lodgeStatus_inside few enough admits).1 fit) tag
    let bank := s.bank.setSlot p (some (proposalAt s.monitor.elapsed changes))
    have after : u.finish.bank = bank := by rw [State.finish_bank, congrArg State.bank answered.rest.1]; rfl
    have filled : bank.slot p = some (proposalAt s.monitor.elapsed changes) := Bank.setSlot_slot _ _ _
    have slots := bank.slotsByte_toNat
    have operator := bank.slotCode_le .operator
    obtain ⟨code, matched⟩ := s.bank.slotCode_filled p (proposalAt s.monitor.elapsed changes)
    refine ⟨u.finish, u, bank.slotsByte, does, ?_⟩
    rw [after, filled]
    exact ⟨answered, rfl, rfl, by omega, by omega, code, matched, fun x _ distinct => sameChanges_iff distinct fit.1,
      u.finish_lineSound _, u.finish_lineSound _, rfl⟩

end Sys2Proof.Machine
end

section
/-! O20: a matched pair without setting 14 commits at a boundary. -/

namespace Sys2Proof.Machine

open Sys2Proof

/-! ### Settings by index (R139, R147) -/

theorem Settings.put_value_same {k : Nat} (low : 1 ≤ k) (high : k ≤ 12) (set : Settings) (v : Nat) :
    (set.put k v).value k = v := by
  interval_cases k <;> rfl

theorem Settings.put_value_other {j k : Nat} (other : j ≠ k) (set : Settings) (v : Nat) :
    (set.put j v).value k = set.value k := by
  unfold Settings.put
  split <;> unfold Settings.value <;> split <;> trivial

/-- The changes that a list of indexes picks, put in one after another: a standing setting takes the value of its change,
and stands where it has none or its index is not picked. -/
theorem Settings.putAll_picked {k : Nat} (low : 1 ≤ k) (high : k ≤ 12) (old : Settings) (changes : List Change)
    {indexes : List Nat} (distinct : indexes.Nodup) (set : Settings) :
    (set.putAll ((indexes.filterMap fun i => changes.find? fun c => c.index == i).map (changedOf old))).value k =
      if k ∈ indexes then ((changeFor changes k).map Int.toNat).getD (set.value k) else set.value k := by
  induction indexes generalizing set with
  | nil => rfl
  | cons i rest ih =>
    obtain ⟨fresh, distinct⟩ := List.nodup_cons.1 distinct
    cases found : changes.find? fun c => c.index == i with
    | none =>
      simp only [List.filterMap_cons, found, ih distinct]
      by_cases here : k = i
      · subst here
        simp [changeFor, found, fresh]
      · simp [here]
    | some c =>
      have index : c.index = i := by simpa using List.find?_some found
      simp only [List.filterMap_cons, found, List.map_cons]
      rw [Settings.putAll, List.foldl_cons, ← Settings.putAll, ih distinct]
      by_cases here : k = i
      · subst here
        rw [if_neg fresh, if_pos List.mem_cons_self, changeFor, found]
        exact (congrArg (fun j => (set.put j c.value.toNat).value k) index).trans (Settings.put_value_same low high _ _)
      · have stands : (set.put c.index c.value.toNat).value k = set.value k :=
          Settings.put_value_other (index.trans_ne (Ne.symm here)) _ _
        simp only [changedOf, stands, List.mem_cons, here, false_or]

/-- The settings in force after a commit, by index (R147 step 1). -/
theorem Settings.putAll_value {k : Nat} (low : 1 ≤ k) (high : k ≤ 12) (set : Settings) (changes : List Change) :
    (set.putAll ((inIndexOrder changes).map (changedOf set))).value k =
      match changeFor changes k with
      | some v => v.toNat
      | none => set.value k := by
  have picked : k ∈ List.range 15 := List.mem_range.2 (by omega)
  rw [inIndexOrder, Settings.putAll_picked low high set changes List.nodup_range, if_pos picked]
  cases changeFor changes k <;> rfl

/-! ### The commit (R146, R147) -/

theorem State.commitDue_eq_true {s : State} (matched : s.bank.matched = true) (reduction : s.reduction = none)
    (swell : s.swell = none) (builder : s.builder.members = []) (store : s.store.state = .normal) : s.commitDue = true := by
  simp [State.commitDue, matched, reduction, swell, builder, store]

theorem State.boundaryNotice_commits {s : State} (due : s.commitDue = true)
    (standing : changeFor s.bank.matchedChanges 14 = none) (boundary : Nat) :
    s.boundaryNotice boundary = (s.commitRecord boundary).commitNotices (changeFor s.bank.matchedChanges 13) := by
  rw [State.boundaryNotice, if_pos due]
  dsimp only
  rw [standing]

/-! ### What a commit records (R147, R149, R150) -/

/-- The changes that a commit makes, in index order with their old values (R149). -/
def State.committing (s : State) : List Changed :=
  (inIndexOrder s.bank.matchedChanges).map (changedOf s.bank.inForce)

/-- The SETTINGS record of a commit at a boundary (R149). -/
def State.commitSettings (s : State) (boundary : Nat) : SettingsRecord :=
  { stamp := { clock := boundary, elapsed := s.monitor.elapsed, quality := s.monitor.quality }, changes := s.committing,
    restated := false }

/-- The bank after a commit whose record is queued under a number (R147, R150). -/
def State.bankCommitted (s : State) (number : Nat) : Bank :=
  let values := s.bank.inForce.putAll s.committing
  { s.bank with
    inForce := values, operatorSlot := none, consumerSlot := none,
    areaWrites := s.bank.areaWrites ++
      [{ values := some values, lastChange := some (some { changes := s.committing, mark := .queued number }),
         lastApplied := some number }] }

theorem Store.RoomFor.accepts {t : Store} {k : Nat} (room : t.RoomFor (k + 1)) : t.accepts = true := by
  obtain ⟨normal, episode, queue, numbers⟩ := room
  have short : t.queue.length < queueCapacity := by unfold queueCapacity; omega
  have below : t.newestAssigned < max32 := by unfold Store.newestAssigned; omega
  simp [Store.accepts, Store.hasRoom, normal, episode, short, below]

/-- With room for its record a commit queues it, and the area is handed its number. -/
theorem State.commitRecord_queued {s : State} (room : s.store.RoomFor 1) (boundary : Nat) :
    s.commitRecord boundary = { s with
      store := (s.store.enqueue (.settings (s.commitSettings boundary))).settle,
      bank := s.bankCommitted (s.store.newestAssigned + 1) } := by
  have taken := room.takes s.now (.settings (s.commitSettings boundary))
  rw [← taken, State.commitRecord, room.accepts]
  rfl

/-! ### The interval closed and the pair committed (R89, R147) -/

/-- Two records queued one after another, under the next two numbers (R103). -/
theorem Store.enqueue_pair (t : Store) (x y : Record) : ((t.enqueue x).settle.enqueue y).settle =
    Store.settle { t with queue := t.queue ++
      [{ number := t.newestAssigned + 1, record := x }, { number := t.newestAssigned + 2, record := y }] } := by
  have queue : ((t.enqueue x).settle.enqueue y).queue = t.queue ++
      [{ number := t.newestAssigned + 1, record := x }, { number := t.newestAssigned + 2, record := y }] := by
    simp [Store.enqueue, Store.newestAssigned, Nat.add_assoc]
  rw [← queue]
  rfl

/-- The opening of the next interval changes the store, the aggregator and the small-step-used flag. -/
theorem State.reopened_rest (s : State) (record : Record) : s.reopened record = { s with
    store := (s.store.take s.now record).settle, aggregator := (s.reopened record).aggregator,
    monitor := { s.monitor with smallStepUsed := false } } := by
  rfl

theorem State.reopened_bank (s : State) (record : Record) : (s.reopened record).bank = s.bank := by
  rw [State.reopened_rest]

/-- The part with its interval closed into a record and a pair committed, before the notices to the Estimator and the
aggregator. -/
def State.pairCommitted (s : State) (closing : IntervalRecord) : State :=
  let b := s.aggregator.nextBoundary
  let number := s.store.newestAssigned + 2
  { s with
    store := Store.settle { s.store with
      queue := s.store.queue ++ [{ number := number - 1, record := .interval closing },
        { number := number, record := .settings (s.commitSettings b) }] },
    bank := s.bankCommitted number, aggregator := (s.reopened (.interval closing)).aggregator,
    monitor := { s.monitor with smallStepUsed := false } }

theorem State.reopened_commitRecord {s : State} (room : s.store.RoomFor 2) (closing : IntervalRecord) :
    (s.reopened (.interval closing)).commitRecord s.aggregator.nextBoundary = s.pairCommitted closing := by
  have first : (s.reopened (.interval closing)).store = (s.store.enqueue (.interval closing)).settle := by
    rw [State.reopened_rest, room.takes]
  have second : (s.reopened (.interval closing)).store.RoomFor 1 := room.rest s.now _
  rw [State.commitRecord_queued second, first, Store.enqueue_pair]
  have number : (s.store.enqueue (.interval closing)).settle.newestAssigned + 1 = s.store.newestAssigned + 2 := by
    simp [Store.newestAssigned, Store.enqueue, Nat.add_assoc]
  rw [number, State.reopened_rest]
  rfl

/-- The part after the boundary of a commit: the notices to the Estimator and the aggregator, and the lines judged. -/
def State.afterCommit (s : State) (closing : IntervalRecord) (step : Option Int) : State :=
  ((s.pairCommitted closing).commitNotices step).finish

theorem State.takeBoundary_commits {s : State} {i : Interval} (interval : s.aggregator.interval = some i)
    (due : s.commitDue = true) (standing : changeFor s.bank.matchedChanges 14 = none) (room : s.store.RoomFor 2) :
    s.takeBoundary = s.afterCommit (i.record s.aggregator.nextBoundary s.monitor.elapsed s.tracker.nominal
      s.operator.mark s.consumer.mark) (changeFor s.bank.matchedChanges 13) := by
  rw [State.takeBoundary_eq interval, State.boundaryNotice_commits ((s.reopened_commitDue _).trans due),
    State.reopened_commitRecord room, State.reopened_bank, State.afterCommit]
  rw [State.reopened_bank]
  exact standing

/-! ### The interval that a commit opens (R93, R96) -/

/-- The interval that opens at a boundary, before a commit notice. -/
def State.boundaryInterval (s : State) (event : Bool) : Interval :=
  { start := { clock := s.aggregator.nextBoundary, elapsed := s.monitor.elapsed, quality := s.monitor.quality },
    minutes := s.bank.inForce.minutes, arrangement := s.arrangement, sums := .zero,
    flags := { eventOverlap := event, gapInside := s.gapOpen, supplyLost := false, timeAdjusted := false, short := false,
               afterCommit := false } }

/-- With both event contexts IDLE the interval opens without event overlap (R93). -/
theorem State.pairCommitted_interval {s : State} (reduction : s.reduction = none) (swell : s.swell = none)
    (closing : IntervalRecord) :
    (s.pairCommitted closing).aggregator.interval = some (s.boundaryInterval false) := by
  have idle : s.eventOpen = false := by
    rw [State.eventOpen, reduction, swell]
    rfl
  rw [← idle]
  rfl

/-- What the commit notice makes of the aggregator (R96). -/
theorem State.commitNotice_aggregator {s : State} {i : Interval} (interval : s.aggregator.interval = some i)
    (stepped : Bool) :
    let closed := if stepped then none else s.aggregator.lastClosed
    (s.commitNotice stepped).aggregator = {
      interval := some { i with
        start := if stepped then { i.start with clock := s.clock } else i.start,
        minutes := s.bank.inForce.minutes, arrangement := s.arrangement, sums := .zero,
        flags := { i.flags with afterCommit := true, timeAdjusted := i.flags.timeAdjusted || stepped } },
      freeze := s.aggregator.freeze, lastClosed := closed,
      nextBoundary := boundaryAfter s.bank.inForce.minutes (max s.clock (closed.getD 0)), skip := true } := by
  unfold State.commitNotice
  rw [interval]
  rfl

/-- The interval that a commit opens at a boundary, and the boundary it waits for, once the lines are judged (R96). -/
def State.OpensCommitted (s t : State) (stepped : Bool) : Prop :=
  let b := s.aggregator.nextBoundary
  let closed := if stepped then none else some b
  t.aggregator = {
    interval := some
      { start := { clock := if stepped then t.clock else b, elapsed := s.monitor.elapsed, quality := s.monitor.quality },
        minutes := t.bank.inForce.minutes, arrangement := t.arrangement, sums := .zero,
        flags := { eventOverlap := false, gapInside := s.gapOpen, supplyLost := false, timeAdjusted := stepped,
                   short := false, afterCommit := true } },
    freeze := none, lastClosed := closed,
    nextBoundary := boundaryAfter t.bank.inForce.minutes (max t.clock (closed.getD 0)), skip := true }

theorem State.commitNotice_opensCommitted {s x : State}
    (opened : x.aggregator.interval = some (s.boundaryInterval false)) (unfrozen : x.aggregator.freeze = none)
    (closed : x.aggregator.lastClosed = some s.aggregator.nextBoundary) (stepped : Bool) :
    s.OpensCommitted (x.commitNotice stepped).finish stepped := by
  rw [State.OpensCommitted, State.finish_aggregator, State.commitNotice_aggregator opened, unfrozen, closed]
  cases stepped <;> rfl

theorem State.afterCommit_opensCommitted {s : State} (reduction : s.reduction = none) (swell : s.swell = none)
    (closing : IntervalRecord) (step : Option Int) :
    s.OpensCommitted (s.afterCommit closing step) step.isSome := by
  have opened := State.pairCommitted_interval reduction swell closing
  have unfrozen : (s.pairCommitted closing).aggregator.freeze = none := rfl
  have closed : (s.pairCommitted closing).aggregator.lastClosed = some s.aggregator.nextBoundary := rfl
  rw [State.afterCommit]
  generalize s.pairCommitted closing = x at *
  cases step with
  | none => exact State.commitNotice_opensCommitted (x := { x with estimator := _ }) opened unfrozen closed false
  | some seconds =>
    exact State.commitNotice_opensCommitted (x := State.jointStep { x with estimator := _ } seconds) opened unfrozen
      closed true

/-! ### The part after a commit -/

section
variable (s : State) (closing : IntervalRecord) (step : Option Int)

theorem State.afterCommit_store : (s.afterCommit closing step).store = (s.pairCommitted closing).store := by
  rw [State.afterCommit, State.finish_store, State.commitNotices_rest]
  rfl

theorem State.afterCommit_bank :
    (s.afterCommit closing step).bank = s.bankCommitted (s.store.newestAssigned + 2) := by
  rw [State.afterCommit, State.finish_bank, State.commitNotices_rest]
  rfl

theorem State.afterCommit_estimator : (s.afterCommit closing step).estimator = { ring := [], skip := true } := by
  rw [State.afterCommit, State.finish_estimator, State.commitNotices_rest]
  rfl

theorem State.afterCommit_monitor : (s.afterCommit closing step).monitor =
    { s.monitor with offset := (s.afterCommit closing step).monitor.offset, smallStepUsed := false } := by
  rw [State.afterCommit, State.finish_monitor, State.commitNotices_rest]
  rfl

theorem State.afterCommit_rest : s.afterCommit closing step = { s with
    store := (s.afterCommit closing step).store, bank := (s.afterCommit closing step).bank,
    estimator := (s.afterCommit closing step).estimator, aggregator := (s.afterCommit closing step).aggregator,
    monitor := (s.afterCommit closing step).monitor,
    operator := { s.operator with attention := (s.afterCommit closing step).operator.attention },
    consumer := { s.consumer with attention := (s.afterCommit closing step).consumer.attention } } := by
  rw [State.afterCommit, State.commitNotices_rest]
  rfl

/-- R126: a joint step moves clock time by its seconds, clamped to the clock's range; a commit without one moves nothing. -/
theorem State.afterCommit_offset :
    match step with
    | none => (s.afterCommit closing step).monitor.offset = s.monitor.offset
    | some seconds => (s.monitor.elapsed : Int) + (s.afterCommit closing step).monitor.offset =
        max (0 : Int) (min (max48 : Int) ((s.clock : Int) + seconds * 1000)) := by
  have clock : (s.pairCommitted closing).clock = s.clock := rfl
  have elapsed : (s.pairCommitted closing).monitor.elapsed = s.monitor.elapsed := rfl
  have offset : (s.pairCommitted closing).monitor.offset = s.monitor.offset := rfl
  rw [State.afterCommit, State.finish_monitor, ← clock, ← elapsed, ← offset]
  generalize s.pairCommitted closing = x
  cases step with
  | none => rfl
  | some seconds => exact add_sub_cancel _ _

end

/-- Settles O20: the pair is committed into the part that the boundary reopens, and each block is read from there. -/
theorem matchedPairCommits : Obligations.MatchedPairCommits := by
  intro s i run interval frozen due matched standing reduction swell builder normal episode few numbers b number changes
    closing settings
  have room : s.store.RoomFor 2 := ⟨normal, episode, by omega, numbers⟩
  have commits : s.commitDue = true := State.commitDue_eq_true matched reduction swell builder normal
  have does : exec .intervalBoundary s = .next (s.afterCommit closing (changeFor s.bank.matchedChanges 13)) := by
    rw [← State.takeBoundary_commits interval commits standing room]
    exact congrArg Host.Outcome.next
      (if_pos (Bool.and_eq_true_iff.2 ⟨State.running_of_run run, State.boundaryReached_of interval frozen due⟩))
  refine ⟨_, does, ?_⟩
  clear does
  generalize changeFor s.bank.matchedChanges 13 = step
  have bank := s.afterCommit_bank closing step
  refine ⟨fun k low high => ?values, ?queue, ?area, ?operator, ?consumer, s.afterCommit_estimator closing step,
    ?aggregator, ?offset, ?rest, State.finish_lineSound _ _, State.finish_lineSound _ _⟩
  case values =>
    rw [bank]
    exact Settings.putAll_value low high _ _
  case queue => rw [State.afterCommit_store]; rfl
  case area => rw [bank]; rfl
  case operator => rw [bank]; rfl
  case consumer => rw [bank]; rfl
  case aggregator =>
    have opens := State.afterCommit_opensCommitted reduction swell closing step
    unfold State.OpensCommitted at opens
    cases step <;> exact opens
  case offset =>
    rw [State.afterCommit_monitor]
    exact s.afterCommit_offset closing step
  case rest =>
    rw [State.afterCommit_rest, State.afterCommit_store, bank, State.afterCommit_monitor]
    rfl

end Sys2Proof.Machine
end

section
/-! What every command keeps of the ports: the lines stand as the table of R169 says, and replies and requests stand together
(R154, R157). -/

namespace Sys2Proof.Machine

open Sys2Proof

/-! ### What the lines and the replies are judged by -/

/-- What a port brings to its line: the line itself, the collection mark and the notify level. -/
def PortState.lineFields (t : PortState) : Bool × Nat × Nat := (t.attention, t.mark, t.notify)

/-- What a port's reply is judged by. -/
def PortState.replyFields (t : PortState) : List Byte × ReplyState × Option InProcess :=
  (t.reply, t.replyState, t.inProcess)

/-- Beside its ports, all that the table of R169 reads of the part. -/
def State.lineInputs (s : State) : MonitorState × StoreState × Nat × Option Proposal × Option Proposal :=
  (s.monitor.state, s.store.state, s.store.newest, s.bank.operatorSlot, s.bank.consumerSlot)

/-- All that the table of R169 reads stands in `t` as in `s`, and so do the lines. -/
structure SameLines (s t : State) : Prop where
  inputs : t.lineInputs = s.lineInputs
  port : ∀ p, (t.port p).lineFields = (s.port p).lineFields

/-- The replies and the requests in process stand in `t` as in `s`. -/
def SameReplies (s t : State) : Prop := ∀ p, (t.port p).replyFields = (s.port p).replyFields

theorem SameReplies.after {s t u : State} (k : SameReplies t u) (h : SameReplies s t) : SameReplies s u :=
  fun p => (k p).trans (h p)

/-- The line of a port is judged by the inputs of the table and the port's own fields. -/
theorem SameLines.lineSound {s t : State} (h : SameLines s t) (p : Port) (sound : s.lineSound p) : t.lineSound p := by
  obtain ⟨inputs, port⟩ := h
  have own := port p
  simp only [State.lineInputs, PortState.lineFields, Prod.mk.injEq] at inputs own
  obtain ⟨monitor, store, newest, operatorSlot, consumerSlot⟩ := inputs
  obtain ⟨line, mark, notify⟩ := own
  have slot : t.bank.slot p.other = s.bank.slot p.other := by cases p <;> assumption
  have matched : t.bank.matched = s.bank.matched := by rw [Bank.matched, operatorSlot, consumerSlot, Bank.matched]
  unfold State.lineSound at *
  rwa [line, mark, notify, monitor, store, newest, slot, matched]

theorem PortState.replySound_congr {p : Port} {t u : PortState} (same : u.replyFields = t.replyFields)
    (sound : t.replySound p) : u.replySound p := by
  simp only [PortState.replyFields, Prod.mk.injEq] at same
  obtain ⟨reply, state, request⟩ := same
  unfold PortState.replySound at *
  rwa [reply, state, request]

/-! ### The relation -/

/-- From `s` to `t` sound replies stay sound. -/
def KeepsReplies (s t : State) : Prop := ∀ p, (s.port p).replySound p → (t.port p).replySound p

theorem KeepsReplies.trans {s t u : State} (h : KeepsReplies s t) (k : KeepsReplies t u) : KeepsReplies s u :=
  fun p sound => k p (h p sound)

/-- `KeepsReplies.trans` with its steps named from the last. -/
theorem KeepsReplies.after {s t u : State} (k : KeepsReplies t u) (h : KeepsReplies s t) : KeepsReplies s u := h.trans k

theorem KeepsReplies.same {s t : State} (h : SameReplies s t) : KeepsReplies s t :=
  fun p => PortState.replySound_congr (h p)

/-- From `s` to `t` sound lines stay sound (R169), and so do sound replies. -/
structure KeepsPorts (s t : State) : Prop where
  lines : ∀ p, s.lineSound p → t.lineSound p
  replies : KeepsReplies s t

theorem KeepsPorts.trans {s t u : State} (h : KeepsPorts s t) (k : KeepsPorts t u) : KeepsPorts s u :=
  ⟨fun p sound => k.lines p (h.lines p sound), h.replies.trans k.replies⟩

/-- `KeepsPorts.trans` with its steps named from the last. -/
theorem KeepsPorts.after {s t u : State} (k : KeepsPorts t u) (h : KeepsPorts s t) : KeepsPorts s u := h.trans k

theorem KeepsPorts.same {s t : State} (lines : SameLines s t) (replies : SameReplies s t) : KeepsPorts s t :=
  ⟨lines.lineSound, .same replies⟩

theorem KeepsPorts.refl (s : State) : KeepsPorts s s := .same ⟨rfl, fun _ => rfl⟩ fun _ => rfl

/-- A change that leaves both ports whole and no input of the table. -/
theorem KeepsPorts.samePorts {s t : State} (inputs : t.lineInputs = s.lineInputs) (port : ∀ p, t.port p = s.port p) :
    KeepsPorts s t :=
  .same ⟨inputs, fun p => congrArg _ (port p)⟩ fun p => congrArg _ (port p)

theorem SameReplies.ofFields {s t : State} (operator : t.operator.replyFields = s.operator.replyFields)
    (consumer : t.consumer.replyFields = s.consumer.replyFields) : SameReplies s t
  | .operator => operator
  | .consumer => consumer

theorem State.finish_sameReplies (s : State) : SameReplies s s.finish := fun p => by rw [State.finish_port]; rfl

/-- Whatever was changed, the lines are judged afresh at its end (R169). -/
theorem KeepsPorts.finished {s t : State} (h : KeepsReplies s t) : KeepsPorts s t.finish :=
  ⟨fun p _ => t.finish_lineSound p, h.trans (.same t.finish_sameReplies)⟩

/-! ### A change to one port or to both -/

theorem State.setPort_keepsReplies {s : State} {p : Port} {t : PortState}
    (h : (s.port p).replySound p → t.replySound p) : KeepsReplies s (s.setPort p t) := by
  intro q sound
  by_cases own : q = p
  · subst own
    rw [State.setPort_port]
    exact h sound
  · obtain rfl : q = p.other := by cases p <;> cases q <;> simp_all [Port.other]
    rwa [State.setPort_port_other]

theorem State.setPort_sameLines {s : State} {p : Port} {t : PortState} (h : t.lineFields = (s.port p).lineFields) :
    SameLines s (s.setPort p t) := by
  refine ⟨by cases p <;> rfl, fun q => ?_⟩
  cases p <;> cases q
  · exact h
  · rfl
  · rfl
  · exact h

theorem State.onPort_keepsPorts {s : State} {p : Port} {g : PortState → PortState}
    (lines : (g (s.port p)).lineFields = (s.port p).lineFields)
    (replies : (s.port p).replySound p → (g (s.port p)).replySound p) : KeepsPorts s (s.onPort p g) :=
  ⟨(State.setPort_sameLines lines).lineSound, State.setPort_keepsReplies replies⟩

theorem State.onPort_sameReplies {s : State} {p : Port} {g : PortState → PortState}
    (h : ∀ t, (g t).replyFields = t.replyFields) : SameReplies s (s.onPort p g) := by
  intro q
  cases p <;> cases q
  · exact h _
  · rfl
  · rfl
  · exact h _

/-! ### Replies made, dropped and taken (R156, R158, R160) -/

theorem PortState.replySound_none {p : Port} {t : PortState} (state : t.replyState = .none) (reply : t.reply = [])
    (request : t.inProcess = none) : t.replySound p := by
  unfold PortState.replySound
  simp [state, reply, request]

theorem PortState.stopped_replySound (p : Port) (t : PortState) : t.stopped.replySound p :=
  replySound_none rfl rfl rfl

/-- What a request finds has no reply: an unread one is discarded, a request in process is cancelled (R158). -/
theorem PortState.taken_replyState (t : PortState) : t.taken.replyState = .none := by
  unfold PortState.taken
  split <;> simp [*]

theorem PortState.taken_replySound {p : Port} {t : PortState} (sound : t.replySound p) : t.taken.replySound p := by
  obtain ⟨-, unread, waits⟩ := sound
  refine replySound_none t.taken_replyState ?_ ?_
  all_goals
    unfold PortState.taken
    cases state : t.replyState <;> simp_all

theorem PortState.taken_lineFields (t : PortState) : t.taken.lineFields = t.lineFields := by
  unfold PortState.taken
  split <;> rfl

/-- A complete reply ends in its port's check byte, and the request is over (R157, R158, R174). -/
theorem State.complete_keepsPorts (s : State) (p : Port) (code tag : Byte) (status : Status) (own : Nat)
    (payload : List Byte) : KeepsPorts s (s.complete p code tag status own payload) :=
  State.onPort_keepsPorts rfl fun _ => ⟨fun _ => ⟨_, rfl⟩, fun unready => absurd rfl unready, by simp⟩

/-- A request waits where no reply is READY (R162, R168). -/
theorem State.prepare_keepsPorts {s : State} {p : Port} (unready : (s.port p).replyState ≠ .ready) (r : InProcess) :
    KeepsPorts s (s.prepare p r) :=
  State.onPort_keepsPorts rfl fun sound => ⟨by simp, fun _ => sound.2.1 unready, by simp⟩

theorem State.endPeriod_keepsPorts (s : State) (p : Port) (n : Nat) (buffer : List Byte) :
    KeepsPorts s (s.endPeriod p n buffer) := by
  unfold State.endPeriod
  exact State.onPort_keepsPorts rfl (PortState.replySound_congr rfl)

theorem State.beginPeriod_keepsPorts (s : State) (p : Port) : KeepsPorts s (s.beginPeriod p) := by
  unfold State.beginPeriod
  exact State.onPort_keepsPorts rfl (PortState.replySound_congr rfl)

/-- R156: a reply read in full leaves the port with no reply and no request. -/
theorem State.readEnds_keepsPorts (s : State) (p : Port) (n : Nat) : KeepsPorts s (s.readEnds p n) := by
  unfold State.readEnds
  dsimp only
  split
  next read =>
    have ready : (s.port p).replyState = .ready := by simp_all
    refine (s.endPeriod_keepsPorts p n _).trans (State.onPort_keepsPorts rfl fun sound => ?_)
    obtain ⟨-, -, waits⟩ := sound
    refine PortState.replySound_none rfl rfl ?_
    simpa [State.endPeriod, ready] using waits
  next => exact s.endPeriod_keepsPorts p n _

theorem PortState.countFailure_fields (t : PortState) (status : Status) :
    (t.countFailure status).lineFields = t.lineFields ∧ (t.countFailure status).replyFields = t.replyFields := by
  cases status <;> exact ⟨rfl, rfl⟩

theorem State.refuseFrame_keepsPorts (s : State) (p : Port) (code tag : Byte) (status : Status) :
    KeepsPorts s (s.refuseFrame p code tag status) :=
  (State.onPort_keepsPorts (PortState.countFailure_fields _ _).1
    (PortState.replySound_congr (PortState.countFailure_fields _ _).2)).trans (State.complete_keepsPorts _ _ _ _ _ _ _)

/-- A request acts on a port that has no reply and no request in process (R158). -/
theorem State.request_keepsPorts {s : State} {p : Port} {frame : List Byte} {act : State → State}
    (h : ∀ t, (t.port p).replyState = .none → KeepsPorts t (act t)) : KeepsPorts s (s.request p frame act) := by
  unfold State.request
  split
  · exact (s.endPeriod_keepsPorts p _ _).trans
      ((State.onPort_keepsPorts (PortState.taken_lineFields _) PortState.taken_replySound).trans
        (h _ (by rw [State.onPort_port, PortState.taken_replyState])))
  · exact s.endPeriod_keepsPorts p _ _

/-! ### Requests -/

/-- A change of time asks nothing of the lines and the replies. -/
theorem Retimed.keepsPorts {s t : State} (h : Retimed s t) : KeepsPorts s t := by
  rw [h]
  exact .samePorts rfl fun p => by cases p <;> rfl

theorem State.serveTimeSet_keepsPorts (s : State) (p : Port) (tag : Byte) (value : BitVec 64) :
    KeepsPorts s (s.serveTimeSet p tag value) := by
  unfold State.serveTimeSet
  dsimp only
  refine (State.complete_keepsPorts _ _ _ _ _ _ _).after ?_
  split
  · exact (s.initialSet_retimed p _).keepsPorts
  · exact .refl s

theorem State.serveTimeStep_keepsPorts (s : State) (p : Port) (tag : Byte) (value : BitVec 64) :
    KeepsPorts s (s.serveTimeStep p tag value) := by
  unfold State.serveTimeStep
  dsimp only
  refine (State.complete_keepsPorts _ _ _ _ _ _ _).after ?_
  split
  · exact (s.smallStep_retimed p _).keepsPorts
  · exact .refl s

theorem State.judgeHeld_sameReplies (s : State) : SameReplies s s.judgeHeld := by
  unfold State.judgeHeld
  split <;> exact .ofFields rfl rfl

/-- R163: an accepted COLLECT moves its mark, and both lines are judged behind it. -/
theorem State.serveCollect_keepsPorts (s : State) (p : Port) (tag : Byte) (number : BitVec 32) :
    KeepsPorts s (s.serveCollect p tag number) := by
  unfold State.serveCollect
  dsimp only
  split
  · exact s.complete_keepsPorts _ _ _ _ _ _
  · have marked : SameReplies s (s.setMark p number.toNat) := State.onPort_sameReplies fun _ => rfl
    exact .finished (.after (.same (State.judgeHeld_sameReplies _))
      ((State.complete_keepsPorts _ _ _ _ _ _ _).replies.after (.same marked)))

theorem State.serveLodge_keepsPorts (s : State) (p : Port) (tag : Byte) (pairs : List RawPair) :
    KeepsPorts s (s.serveLodge p tag pairs) := by
  unfold State.serveLodge
  dsimp only
  split
  · exact .finished ((State.complete_keepsPorts _ _ _ _ _ _ _).replies.after (.same (.ofFields rfl rfl)))
  · exact s.complete_keepsPorts _ _ _ _ _ _

/-- A request served on its port, which has no reply READY. -/
theorem State.serve_keepsPorts {i : Instr} {p : Port} (sender : senderOf i = some p) {s : State}
    (free : (s.port p).replyState = .none) : KeepsPorts s (s.serve i) := by
  have unready : (s.port p).replyState ≠ .ready := by rw [free]; decide
  cases i <;> simp only [senderOf, reduceCtorEq, Option.some.injEq] at sender <;> subst sender
  case status => exact s.complete_keepsPorts _ _ _ _ _ _
  case readRecords => exact State.prepare_keepsPorts unready _
  case collect => exact s.serveCollect_keepsPorts _ _ _
  case readLive => exact s.complete_keepsPorts _ _ _ _ _ _
  case readMatrix => exact s.complete_keepsPorts _ _ _ _ _ _
  case readSettings =>
    simp only [State.serve, State.serveReadSettings]
    split <;> exact s.complete_keepsPorts _ _ _ _ _ _
  case lodge => exact s.serveLodge_keepsPorts _ _ _
  case withdraw =>
    exact .finished ((State.complete_keepsPorts _ _ _ _ _ _ _).replies.after (.same (.ofFields rfl rfl)))
  case timeSet => exact s.serveTimeSet_keepsPorts _ _ _
  case timeStep => exact s.serveTimeStep_keepsPorts _ _ _
  case timeBadForm =>
    simp only [State.serve, State.serveTimeForm]
    split
    · exact s.serveTimeSet_keepsPorts _ _ _
    · exact s.serveTimeStep_keepsPorts _ _ _
    · exact s.complete_keepsPorts _ _ _ _ _ _
  case setNotify =>
    exact .finished ((State.complete_keepsPorts _ _ _ _ _ _ _).replies.after
      (.same (State.onPort_sameReplies fun _ => rfl)))
  case flush =>
    simp only [State.serve, State.serveFlush]
    split
    · exact s.complete_keepsPorts _ _ _ _ _ _
    · exact State.prepare_keepsPorts unready _
  all_goals exact .refl s

/-- The request that a frame holds is one of the frame's own port. -/
theorem requestOf_sender {p : Port} {bytes : List Byte} {i : Instr} (h : requestOf p bytes = some i) :
    senderOf i = some p := by
  unfold requestOf at h
  dsimp only at h
  split at h
  case h_9 => split at h <;> cases h <;> rfl
  all_goals cases h <;> rfl

theorem State.serveFrame_keepsPorts {s : State} {p : Port} (free : (s.port p).replyState = .none) (bytes : List Byte) :
    KeepsPorts s (s.serveFrame p bytes) := by
  unfold State.serveFrame
  split
  · exact s.refuseFrame_keepsPorts _ _ _ _
  · split
    next held => exact State.serve_keepsPorts (requestOf_sender held) free
    next => exact .refl s

theorem State.periodEnds_keepsPorts (s : State) (p : Port) (bytes : List Byte) : KeepsPorts s (s.periodEnds p bytes) := by
  unfold State.periodEnds
  split
  · exact s.endPeriod_keepsPorts _ _ _
  · split
    · exact s.readEnds_keepsPorts _ _
    · exact State.request_keepsPorts fun _ free => State.serveFrame_keepsPorts free bytes

theorem exec_request_keepsPorts {i : Instr} {p : Port} {s t : State} (hp : senderOf i = some p)
    (h : exec i s = .next t) : KeepsPorts s t := by
  have served : ∀ frame, KeepsPorts s (s.request p frame fun u => u.serve i) := fun frame =>
    State.request_keepsPorts fun _ free => State.serve_keepsPorts hp free
  cases i <;> simp only [senderOf, reduceCtorEq, Option.some.injEq] at hp <;> subst hp <;> injection h with h <;> subst h
  case readPeriod => exact s.readEnds_keepsPorts _ _
  case selectPeriodStart => exact s.beginPeriod_keepsPorts _
  case invalidRequestFrame => exact s.periodEnds_keepsPorts _ _
  case lodge =>
    refine State.request_keepsPorts fun u _ => ?_
    split
    · exact u.serveLodge_keepsPorts _ _ _
    · exact u.refuseFrame_keepsPorts _ _ _ _
  all_goals exact served _

/-! ### The measuring blocks, the store and the timers -/

theorem Measured.keepsPorts {s t : State} (h : Measured s t) : KeepsPorts s t := by
  refine .samePorts ?_ fun p => ?_
  · rw [State.lineInputs, h.bank, h.monitor, h.store.rest]
    rfl
  · cases p
    · exact h.operator
    · exact h.consumer

theorem State.expireBurst_keepsPorts (s : State) : KeepsPorts s s.expireBurst := by
  unfold State.expireBurst
  exact (State.deliver_recorded _ _).measured.keepsPorts.after (.samePorts rfl fun p => by cases p <;> rfl)

theorem State.takeBoundary_keepsPorts (s : State) : KeepsPorts s s.takeBoundary :=
  ⟨fun p _ => State.finish_lineSound _ p, .same (by rw [State.takeBoundary_rest]; exact .ofFields rfl rfl)⟩

theorem State.holdupWrite_sameReplies (s : State) : SameReplies s s.holdupWrite := by
  rw [State.holdupWrite_rest]
  exact .ofFields rfl rfl

theorem State.endDrain_sameReplies (s : State) : SameReplies s s.endDrain := by
  rw [State.endDrain_rest]
  exact .ofFields rfl rfl

theorem State.startPending_sameReplies (s : State) : SameReplies s s.startPending := by
  rw [State.startPending_rest]
  exact .ofFields rfl rfl

/-- What follows a completion touches no reply. -/
theorem State.afterCompletion_keepsPorts {s t : State} (h : SameReplies s t) : KeepsPorts s t.afterCompletion := by
  refine .finished (.after (.same (State.holdupWrite_sameReplies _)) ?_)
  split
  · exact .same (t.endDrain_sameReplies.after h)
  · exact .same h

/-- R108: the waiting read that the arbiter serves is answered on its port. -/
theorem State.serveRead_keepsPorts (s : State) (p : Port) : KeepsPorts s (s.serveRead p) := by
  unfold State.serveRead
  split
  · exact .refl s
  · exact (State.complete_keepsPorts _ _ _ _ _ _ _).after (.samePorts rfl fun q => by cases q <;> rfl)

theorem State.grant_keepsPorts (s : State) : KeepsPorts s s.grant := by
  unfold State.grant
  split
  · split
    · exact s.serveRead_keepsPorts _
    · exact .finished (.same s.startPending_sameReplies)
  · exact .finished (.same s.holdupWrite_sameReplies)
  all_goals exact .refl s

theorem exec_quiet_keepsPorts {i : Instr} {s t : State} (hi : worksQuietly i = true) (h : exec i s = .next t) :
    KeepsPorts s t := by
  cases i <;> simp only [worksQuietly, Bool.false_eq_true] at hi <;> injection h with h <;> subst h
  case proposalExpiry p => split; exacts [.finished (.same (.ofFields rfl rfl)), .refl s]
  case releaseCheck =>
    split
    · exact .refl s
    · exact .finished (.same ((State.judgeHeld_sameReplies _).after (.ofFields rfl rfl)))
  case heldBackGapQueue =>
    split
    · exact .finished (.same ((State.holdupWrite_sameReplies _).after (.ofFields rfl rfl)))
    · exact .refl s
  case arbiterGrant => split; exacts [s.grant_keepsPorts, .refl s]
  case padFillComplete => split; exacts [State.afterCompletion_keepsPorts (.ofFields rfl rfl), .refl s]
  case eraseComplete => split; exacts [State.afterCompletion_keepsPorts (.ofFields rfl rfl), .refl s]
  case resetEraseComplete => split; exacts [.finished (.same (.ofFields rfl rfl)), .refl s]
  case areaWriteComplete => split; exacts [.refl s, .finished (.same (.ofFields rfl rfl))]
  case flushComplete p => split; exacts [.refl s, s.complete_keepsPorts _ _ _ _ _ _]

/-! ### The supply, the reset line and the restart -/

/-- Stopped ports have no reply and no request (R160). -/
theorem KeepsReplies.ofStopped {s t : State} (h : ∀ p, (t.port p).replyFields = (s.port p).stopped.replyFields) :
    KeepsReplies s t :=
  fun p _ => PortState.replySound_congr (h p) ((s.port p).stopped_replySound p)

/-- A change of the monitor alone that stays in its state. -/
theorem KeepsPorts.ofMonitor {s : State} {m : Monitor} (state : m.state = s.monitor.state) :
    KeepsPorts s { s with monitor := m } :=
  .samePorts (by rw [State.lineInputs, State.lineInputs, ← state]) fun p => by cases p <;> rfl

theorem State.warn_keepsPorts (s : State) : KeepsPorts s s.warn :=
  ⟨fun p _ => State.finish_lineSound _ p, .ofStopped fun p => by rw [State.warn_port]⟩

theorem State.stopScan_port (s : State) (p : Port) : s.stopScan.port p = s.port p := by
  rw [State.stopScan_rest]
  cases p <;> rfl

theorem State.stopScan_keepsPorts (s : State) : KeepsPorts s s.stopScan :=
  .samePorts (by rw [State.stopScan_rest]; rfl) s.stopScan_port

theorem State.tear_port (s : State) (p : Port) : s.tear.port p = s.port p := by
  rw [State.tear_rest]
  cases p <;> rfl

theorem State.enterRetain_keepsPorts {s t : State} (h : KeepsReplies s t) (complete : Bool) :
    KeepsPorts s (t.enterRetain complete) :=
  .finished (h.trans (.same (.ofFields rfl rfl)))

theorem State.beginRestart_keepsPorts (s : State) (kind : RestartKind) (strap : Bool) :
    KeepsPorts s (s.beginRestart kind strap) := by
  have started : SameReplies s (if kind = .cold then s.coldStart else s) := by
    split <;> exact .ofFields rfl rfl
  exact .finished (.same (.after (.ofFields rfl rfl) started))

theorem State.holdByReset_keepsPorts (s : State) : KeepsPorts s s.holdByReset :=
  ⟨fun p _ => State.finish_lineSound _ p, .ofStopped fun p => by rw [State.holdByReset_eq]; cases p <;> rfl⟩

theorem State.endScan_keepsPorts (s : State) (kind : RestartKind) : KeepsPorts s (s.endScan kind) :=
  ⟨fun p _ => State.finish_lineSound _ p, .ofStopped fun p => by rw [State.endScan_rest]; cases p <;> rfl⟩

/-- A power-up finds both ports stopped, and their lines are judged as the part enters RETAIN (R130, R160). -/
theorem State.powerUp_keepsPorts (s : State) :
    KeepsPorts s (s.stopScan.tear.dropAreaWrites.stopPorts.enterRetain false) := by
  refine State.enterRetain_keepsPorts (.ofStopped fun p => ?_) _
  have port : s.stopScan.tear.dropAreaWrites.port p = s.port p := by
    rw [← s.stopScan_port, ← s.stopScan.tear_port]
    cases p <;> rfl
  rw [State.stopPorts, State.onPorts_port, port]

theorem exec_supply_keepsPorts {i : Instr} {s t : State} (hi : ofTheSupply i = true) (h : exec i s = .next t) :
    KeepsPorts s t := by
  cases i <;> simp only [ofTheSupply, Bool.false_eq_true] at hi <;> injection h with h <;> subst h
  case supplyGoodFall =>
    split
    · exact .refl s
    · split
      · exact s.warn_keepsPorts
      · exact s.stopScan_keepsPorts.trans (State.warn_keepsPorts _)
      all_goals exact .ofMonitor rfl
  case storeHoldupDone =>
    split
    · refine State.enterRetain_keepsPorts (.same fun p => ?_) _
      cases p <;> rfl
    · exact .refl s
  case supplyCollapse =>
    split
    · refine State.enterRetain_keepsPorts (.same fun p => ?_) _
      rw [← s.tear_port]
      cases p <;> rfl
    · exact .refl s
  case supplyGoodRise =>
    split
    · exact .refl s
    · split
      all_goals exact .ofMonitor rfl
  case steadinessWaitDone => split; exacts [s.beginRestart_keepsPorts _ _, .refl s]
  case powerUp => exact s.powerUp_keepsPorts.trans (.ofMonitor rfl)
  case retentionLoss => split; exacts [.ofMonitor rfl, .refl s]
  case resetAssert =>
    split
    · exact .refl s
    · split
      · exact s.holdByReset_keepsPorts
      · exact s.holdByReset_keepsPorts
      all_goals exact .ofMonitor rfl
  case resetRelease strap =>
    split
    · exact .refl s
    · refine KeepsPorts.trans (.ofMonitor (m := { s.monitor with resetHigh := true }) rfl) ?_
      unfold State.releaseReset
      split
      · exact State.beginRestart_keepsPorts _ _ _
      · split
        · exact State.beginRestart_keepsPorts _ _ _
        · exact .refl _
  case restartScanEnd =>
    split
    · split
      · exact .refl s
      · exact s.endScan_keepsPorts _
    · exact .refl s

theorem State.ticked_keepsPorts (s : State) : KeepsPorts s s.countElapsed.keepClock := by
  have counted : KeepsPorts s s.countElapsed := by
    unfold State.countElapsed
    split <;> exact .samePorts rfl fun p => by cases p <;> rfl
  refine counted.trans ?_
  unfold State.keepClock
  dsimp only
  split
  · exact .refl _
  · exact .samePorts rfl fun p => by cases p <;> rfl

/-! ### Every command -/

/-- Whatever the command, the lines stand as the table of R169 says, and every port's reply and request stand together. -/
theorem exec_keepsPorts {i : Instr} {s t : State} (h : exec i s = .next t) : KeepsPorts s t := by
  by_cases link : ofTheLink i = true
  · exact (exec_measured link h).keepsPorts
  by_cases supply : ofTheSupply i = true
  · exact exec_supply_keepsPorts supply h
  by_cases quiet : worksQuietly i = true
  · exact exec_quiet_keepsPorts quiet h
  cases sender : senderOf i with
  | some p => exact exec_request_keepsPorts sender h
  | none =>
    cases i <;> simp [ofTheLink, ofTheSupply, worksQuietly, senderOf] at link supply quiet sender
      <;> injection h with h <;> subst h
    case burstExpiry => split; exacts [s.expireBurst_keepsPorts, .refl s]
    case intervalBoundary => split; exacts [s.takeBoundary_keepsPorts, .refl s]
    case recordWriteComplete => split; exacts [State.afterCompletion_keepsPorts (.ofFields rfl rfl), .refl s]
    case epochWriteComplete =>
      split
      · exact .finished (.same ((State.holdupWrite_sameReplies _).after (.ofFields rfl rfl)))
      · exact .refl s
    case elapsedTick => split; exacts [.refl s, s.ticked_keepsPorts]

/-- Settles O54. -/
theorem attentionLinesStaySound : Obligations.AttentionLinesStaySound :=
  fun _ _ _ operator consumer h => ⟨(exec_keepsPorts h).lines _ operator, (exec_keepsPorts h).lines _ consumer⟩

/-- Settles O55. -/
theorem repliesStayWhole : Obligations.RepliesStayWhole :=
  fun _ _ _ sound h p => (exec_keepsPorts h).replies p (sound p)

end Sys2Proof.Machine
end

section
/-! O60: every command answers next, and the waiting commands stand. -/

namespace Sys2Proof.Machine

open Sys2Proof

theorem exec_next (i : Instr) (s : State) : ∃ t, exec i s = .next t := by cases i <;> exact ⟨_, rfl⟩

theorem Quiet.pending {s t : State} (h : Quiet s t) : t.pending = s.pending := by rw [h.rest]

theorem Asked.pending {s t : State} (h : Asked s t) : t.pending = s.pending := by rw [h]

theorem State.warn_pending (s : State) : s.warn.pending = s.pending := by rw [State.warn_rest]

theorem State.beginRestart_pending (s : State) (kind : RestartKind) (strap : Bool) :
    (s.beginRestart kind strap).pending = s.pending := by rw [State.beginRestart_rest]

theorem State.holdByReset_pending (s : State) : s.holdByReset.pending = s.pending := by rw [State.holdByReset_eq]

theorem State.enterRetain_pending (s : State) (complete : Bool) : (s.enterRetain complete).pending = s.pending := rfl

theorem exec_supply_pending {i : Instr} {s t : State} (hi : ofTheSupply i = true) (h : exec i s = .next t) :
    t.pending = s.pending := by
  cases i <;> simp only [ofTheSupply, Bool.false_eq_true] at hi <;> injection h with h <;> subst h
  case supplyGoodFall =>
    split
    · rfl
    · split
      · exact s.warn_pending
      · rw [State.warn_pending, s.stopScan_quiet.pending]
      all_goals rfl
  case storeHoldupDone => split <;> rfl
  case supplyCollapse =>
    split
    · rw [State.enterRetain_pending, (s.tear_quiet.trans (State.dropAreaWrites_quiet _)).pending]
    · rfl
  case supplyGoodRise =>
    split
    · rfl
    · split <;> rfl
  case steadinessWaitDone => split; exacts [s.beginRestart_pending _ _, rfl]
  case powerUp =>
    have stopped := ((s.stopScan_quiet.trans (State.tear_quiet _)).trans (State.dropAreaWrites_quiet _)).trans
      (State.stopPorts_quiet _)
    rw [State.onMonitor_pending, State.enterRetain_pending, stopped.pending]
  case retentionLoss => split <;> rfl
  case resetAssert =>
    split
    · rfl
    · split
      · exact s.holdByReset_pending
      · exact s.holdByReset_pending
      all_goals rfl
  case resetRelease =>
    split
    · rfl
    · unfold State.releaseReset
      split
      · exact State.beginRestart_pending _ _ _
      · split
        · exact State.beginRestart_pending _ _ _
        · rfl
  case restartScanEnd =>
    split
    · split
      · rfl
      · rw [State.endScan_rest]
    · rfl

theorem State.ticked_pending (s : State) : s.countElapsed.keepClock.pending = s.pending := by
  have counted : s.countElapsed.pending = s.pending := by
    unfold State.countElapsed
    split <;> rfl
  rw [← counted]
  unfold State.keepClock
  dsimp only
  split <;> rfl

/-- No command reaches the commands that wait behind it. -/
theorem exec_pending {i : Instr} {s t : State} (h : exec i s = .next t) : t.pending = s.pending := by
  by_cases link : ofTheLink i = true
  · exact (exec_measured link h).pending
  by_cases supply : ofTheSupply i = true
  · exact exec_supply_pending supply h
  by_cases quiet : worksQuietly i = true
  · exact (exec_quiet quiet h).pending
  cases sender : senderOf i with
  | some p => exact (exec_asked i p s t sender h).pending
  | none =>
    cases i <;> simp [ofTheLink, ofTheSupply, worksQuietly, senderOf] at link supply quiet sender
      <;> injection h with h <;> subst h
    case burstExpiry => split; exacts [State.deliver_pending _ _, rfl]
    case intervalBoundary =>
      split
      · rw [State.takeBoundary_rest]
      · rfl
    case recordWriteComplete => split; exacts [(State.afterCompletion_quiet _).pending, rfl]
    case epochWriteComplete => split; exacts [((State.holdupWrite_quiet _).trans (State.finish_quiet _)).pending, rfl]
    case elapsedTick => split; exacts [rfl, s.ticked_pending]

/-- Settles O60. -/
theorem everyCommandCompletes : Obligations.EveryCommandCompletes := fun i s =>
  let ⟨t, next⟩ := exec_next i s
  ⟨t, next, exec_pending next⟩

end Sys2Proof.Machine
end

section
/-! O30 and O43: the end of a FLUSH wait, and what a select period sends and leaves. -/

namespace Sys2Proof.Machine

open Sys2Proof

/-! ### The end of a FLUSH wait (R168) -/

theorem Store.flushEnds_iff (t : Store) (target : Nat) :
    t.flushEnds target = true ↔ target ≤ t.newest ∨ t.state = .held ∨ ∀ e ∈ t.queue, target < e.number := by
  simp [Store.flushEnds, or_assoc]

theorem State.flushDue_waiting {s : State} {p : Port} {tag : Byte} {target : Nat} (run : s.monitor.state = .run)
    (waits : (s.port p).inProcess = some (.flush tag target)) :
    s.flushDue p = if s.store.flushEnds target then some (tag, target) else none := by
  simp only [State.flushDue, waits, State.running_of_run run, Bool.true_and]

theorem exec_flushComplete_due {s : State} {p : Port} {tag : Byte} {target : Nat}
    (due : s.flushDue p = some (tag, target)) : exec (.flushComplete p) s = .next (s.completeFlush p tag target) := by
  show execFlushComplete p s = _
  rw [execFlushComplete, due]

theorem exec_flushComplete_waiting {s : State} {p : Port} (waiting : s.flushDue p = none) :
    exec (.flushComplete p) s = .next s := by
  show execFlushComplete p s = _
  rw [execFlushComplete, waiting]

/-- Settles O30, by whether the wait has ended. -/
theorem flushWaitEnds : Obligations.FlushWaitEnds := by
  intro s p tag target run waits ended
  have due := State.flushDue_waiting run waits
  refine ⟨fun h => exec_flushComplete_due ?_, fun h => exec_flushComplete_waiting ?_⟩
  · rw [due, if_pos ((s.store.flushEnds_iff target).2 h)]
  · rw [due, if_neg fun ends => h ((s.store.flushEnds_iff target).1 ends)]

/-! ### Select periods (R155, R156, R160) -/

theorem State.periodAtStart_eq (s : State) (p : Port) :
    s.periodAtStart p = if s.monitor.state = .run then
      (if (s.port p).replyState = .ready then .reply (s.port p).reply else .zeros) else .ignored := by
  unfold State.periodAtStart State.running
  cases s.monitor.state <;> cases (s.port p).replyState <;> rfl

/-- A period that the part takes keeps what it took in; what it sends is fixed by the period (R155). -/
theorem State.endPeriod_taken {s : State} {p : Port} (run : s.monitor.state = .run) (taken : s.periodNow p ≠ .ignored)
    (n : Nat) (buffer : List Byte) :
    s.endPeriod p n buffer = s.setPort p { s.port p with
      period := none, clockedOut := (s.periodNow p).shown n, requestBuffer := buffer.take 64 } := by
  have takes : s.takesPeriod p = true := by simp [State.takesPeriod, State.running_of_run run, taken]
  have out : s.bytesOut p n = (s.periodNow p).shown n := by simp [State.bytesOut, run]
  unfold State.endPeriod
  rw [takes, out]
  rfl

/-- A read period that the part takes leaves its two zero bytes in the buffer, and the reply where it was not read in full. -/
theorem State.readEnds_taken {s : State} {p : Port} (run : s.monitor.state = .run) (taken : s.periodNow p ≠ .ignored)
    {n : Nat} (two : 2 ≤ n) :
    s.readEnds p n =
      let ended : PortState := { s.port p with
        period := none, clockedOut := (s.periodNow p).shown n, requestBuffer := [0, 0] }
      s.setPort p (if (s.periodNow p).readsIn n = true ∧ (s.port p).replyState = .ready
        then { ended with reply := [], replyState := .none } else ended) := by
  have takes : s.takesPeriod p = true := by simp [State.takesPeriod, State.running_of_run run, taken]
  unfold State.readEnds
  rw [State.endPeriod_taken run taken, Nat.min_eq_right two, takes]
  dsimp only
  by_cases read : (s.periodNow p).readsIn n = true ∧ (s.port p).replyState = .ready
  · rw [if_pos read, if_pos (by simp [read]), State.onPort_eq, State.setPort_port, State.setPort_setPort]
    rfl
  · rw [if_neg read, if_neg (by simpa using read)]
    rfl

/-- A period ignored whole sends zeros, or nothing in RETAIN, and leaves nothing (R160). -/
theorem State.readEnds_ignored {s : State} {p : Port} (ignored : s.periodNow p = .ignored) (n : Nat) :
    s.readEnds p n = s.setPort p { s.port p with
      period := none, requestBuffer := [],
      clockedOut := if s.monitor.state = .retain then [] else List.replicate n 0 } := by
  have takes : s.takesPeriod p = false := by simp [State.takesPeriod, ignored]
  have out : s.bytesOut p n = if s.monitor.state = .retain then [] else List.replicate n 0 := by
    rw [State.bytesOut, ignored]
    rfl
  unfold State.readEnds State.endPeriod
  rw [takes, out]
  rfl

theorem SelectPeriod.shown_long {bytes : List Byte} {n : Nat} (long : bytes.length ≤ n) :
    (SelectPeriod.reply bytes).shown n = bytes ++ List.replicate (n - bytes.length) 0 :=
  List.take_of_length_le (padTo_length n bytes long).le

theorem SelectPeriod.shown_short {bytes : List Byte} {n : Nat} (short : n ≤ bytes.length) :
    (SelectPeriod.reply bytes).shown n = bytes.take n := List.take_append_of_le_length short

/-- Settles O43: the period that ends now is the one in progress, or one that begins as it ends. -/
theorem selectPeriodsReadReplies : Obligations.SelectPeriodsReadReplies := by
  intro p s given
  have start : s.periodAtStart p = given := s.periodAtStart_eq p
  have now : s.periodNow p = (s.port p).period.getD given := by rw [State.periodNow, start]
  have reads : ∀ n, exec (.readPeriod p n) s = .next (s.readEnds p n) := fun _ => rfl
  rw [← now]
  refine ⟨?begins, fun n two run taken => ⟨fun bytes reply long ready => ?whole, fun bytes reply short => ?part,
    fun zeros => ?zeros⟩, fun n out period => ?outside⟩
  case begins =>
    rw [← start]
    rfl
  case whole =>
    rw [reads, State.readEnds_taken run taken two, reply, SelectPeriod.shown_long long]
    dsimp only
    rw [if_pos ⟨decide_eq_true ⟨two, long⟩, ready⟩]
  case part =>
    have unread : (SelectPeriod.reply bytes).readsIn n = false := decide_eq_false fun h => Nat.not_le.2 short h.2
    rw [reads, State.readEnds_taken run taken two, reply, SelectPeriod.shown_short short.le, unread]
    rfl
  case zeros =>
    rw [reads, State.readEnds_taken run taken two, zeros]
    rfl
  case outside =>
    have ignored : s.periodNow p = .ignored := by
      rw [now, show given = .ignored from if_neg out]
      rcases period with h | h <;> rw [h] <;> rfl
    rw [reads, State.readEnds_ignored ignored]

end Sys2Proof.Machine
end

section
/-! O44: a frame that fails a check of R157 is answered with the first check's status, and counted. -/

namespace Sys2Proof.Machine

open Sys2Proof

/-! ### The checks in their order (R157) -/

theorem portConstant_eq (p : Port) : portConstant p = if p = .operator then 0x4F else 0xC3 := by cases p <;> rfl

/-- R174: the codes 1 to 11 are those that have parameters. -/
theorem requiredParams_eq_none_iff (code : Byte) (params : List Byte) :
    requiredParams code params = none ↔ ¬ (1 ≤ code.toNat ∧ code.toNat ≤ 11) := by
  unfold requiredParams
  split
  case h_12 =>
    refine iff_of_true rfl fun ⟨low, high⟩ => ?_
    generalize code.toNat = n at *
    interval_cases n <;> contradiction
  all_goals simp [*]

section
variable {p : Port} {bytes : List Byte}

theorem frameFailure_badLength
    (h : ¬ (5 ≤ fieldAt bytes 0 2 ∧ fieldAt bytes 0 2 ≤ 64 ∧ fieldAt bytes 0 2 = bytes.length)) :
    frameFailure p bytes = some .length := by
  unfold frameFailure
  rw [if_pos (by rwa [eq_comm (a := bytes.length)])]

variable (length : 5 ≤ fieldAt bytes 0 2 ∧ fieldAt bytes 0 2 ≤ 64 ∧ fieldAt bytes 0 2 = bytes.length)
include length

theorem frameFailure_badCheck (h : byteAt bytes (bytes.length - 1) ≠ frameCheck p (bytes.take (bytes.length - 1))) :
    frameFailure p bytes = some .check := by
  unfold frameFailure
  rw [if_neg (by rwa [not_not, eq_comm (a := bytes.length)]), if_pos h]

/-- With its length and its check byte right, a frame is judged by its code and its parameters. -/
theorem frameFailure_checked (h : byteAt bytes (bytes.length - 1) = frameCheck p (bytes.take (bytes.length - 1))) :
    frameFailure p bytes = (requiredParams (byteAt bytes 2) (frameParams bytes)).elim (some .unknown)
      fun k => if (frameParams bytes).length = k then none else some .length := by
  unfold frameFailure
  rw [if_neg (by rwa [not_not, eq_comm (a := bytes.length)]), if_neg (not_not.2 h)]
  cases requiredParams (byteAt bytes 2) (frameParams bytes) <;> rfl

end

/-! ### The answer (R157, R158) -/

theorem PortState.countFailure_eq (t : PortState) (status : Status) :
    t.countFailure status = { t with
      lengthFailures := if status = .length then min 65535 (t.lengthFailures + 1) else t.lengthFailures,
      checkFailures := if status = .check then min 65535 (t.checkFailures + 1) else t.checkFailures } := by
  cases status <;> rfl

theorem PortState.taken_countFailure (t : PortState) (status : Status) :
    (t.countFailure status).taken = t.taken.countFailure status := by
  cases status <;> cases h : t.replyState <;> simp [PortState.taken, PortState.countFailure, h]

/-- Counting a failure before the port is taken or after is one. -/
theorem State.takenPort_countFailure (s : State) (p : Port) (frame : List Byte) (status : Status) :
    (s.setPort p ((s.port p).countFailure status)).takenPort p frame = (s.takenPort p frame).countFailure status := by
  have out : (s.setPort p ((s.port p).countFailure status)).bytesOut p frame.length = s.bytesOut p frame.length := by
    refine State.bytesOut_congr (by rw [State.setPort_monitor]) ?_ ?_ ?_ _
    all_goals rw [State.setPort_port, PortState.countFailure_eq]
  rw [State.takenPort, out, State.setPort_port, PortState.taken_countFailure, PortState.countFailure_eq,
    PortState.countFailure_eq, State.takenPort]

/-- A refused frame is answered on the port with its failure counted. -/
theorem State.request_refused {s : State} {p : Port} (takes : s.takesRequests p) {bytes : List Byte} {status : Status}
    (fails : frameFailure p bytes = some status) :
    Answered p bytes (byteAt bytes 2) (byteAt bytes 3) status 0 [] (s.setPort p ((s.port p).countFailure status))
      (s.request p bytes fun t => t.serveFrame p bytes) := by
  have counted := State.complete_answered (s.setPort p ((s.port p).countFailure status)) p bytes (byteAt bytes 2)
    (byteAt bytes 3) status 0 []
  rw [State.takenPort_countFailure, State.setPort_setPort] at counted
  rw [State.request_eq takes, State.serveFrame, fails]
  dsimp only
  rwa [State.refuseFrame, State.onPort_eq, State.setPort_port, State.setPort_setPort]

theorem State.periodEnds_request (s : State) (p : Port) {bytes : List Byte} (two : 2 ≤ bytes.length)
    (opens : fieldAt bytes 0 2 ≠ 0) : s.periodEnds p bytes = s.request p bytes fun t => t.serveFrame p bytes := by
  rw [State.periodEnds, if_neg (Nat.not_lt.2 two), if_neg opens]

/-- Settles O44: the failure by the checks in their order, the answer by `State.request_refused`. -/
theorem badFramesAnswered : Obligations.BadFramesAnswered := by
  refine ⟨fun p bytes s wf takes => ?_, fun p code tag flags status payload overrun abandoned own => ?_⟩
  · intro n length code badLength badCheck
    obtain ⟨⟨two, opens⟩, fails⟩ : (2 ≤ bytes.length ∧ fieldAt bytes 0 2 ≠ 0) ∧ (frameFailure p bytes).isSome = true := by
      simpa only [Instr.wf, Bool.and_eq_true, decide_eq_true_eq] using wf
    obtain ⟨status, fails⟩ := Option.isSome_iff_exists.1 fails
    have check : badCheck ↔ byteAt bytes (n - 1) ≠ frameCheck p (bytes.take (n - 1)) := by
      rw [frameCheck, portConstant_eq]
    have judged {other : Status} (h : frameFailure p bytes = some other) : status = other :=
      Option.some.inj (fails.symm.trans h)
    refine ⟨status, _, congrArg Host.Outcome.next (s.periodEnds_request p two opens), ?_, fun h => ?_, fun fits h => ?_,
      fun fits right h => ?_, fun fits right low high => ?_⟩
    · rw [← PortState.countFailure_eq]
      exact State.request_refused takes fails
    · exact judged (frameFailure_badLength h)
    · exact judged (frameFailure_badCheck (not_not.1 fits) (check.1 h))
    · have checked := frameFailure_checked (not_not.1 fits) (not_not.1 (mt check.2 right))
      rw [(requiredParams_eq_none_iff _ _).2 h] at checked
      exact judged checked
    · have checked := frameFailure_checked (not_not.1 fits) (not_not.1 (mt check.2 right))
      obtain ⟨k, known⟩ := Option.ne_none_iff_exists'.1 (mt (requiredParams_eq_none_iff _ (frameParams bytes)).1
        (not_not.2 ⟨low, high⟩))
      rw [known, Option.elim_some, fails] at checked
      split at checked
      · cases checked
      · exact Option.some.inj checked
  · refine ⟨?_, rfl⟩
    rw [replyFrame, frameCheck, portConstant_eq]
    cases status <;> rfl

end Sys2Proof.Machine
end

section
/-! O45: a request's frame passes the checks of its own port, reads back as the request, and fails on the other port. -/

namespace Sys2Proof.Machine

open Sys2Proof

/-! ### A request frame and its parts (R174) -/

section
variable (p : Port) (code tag : Byte) (params : List Byte)

theorem requestFrame_code : byteAt (requestFrame p code tag params) 2 = code := rfl

theorem requestFrame_tag : byteAt (requestFrame p code tag params) 3 = tag := rfl

theorem requestFrame_params : frameParams (requestFrame p code tag params) = params := by
  rw [frameParams, requestFrame_length, Nat.add_sub_cancel]
  exact List.take_left' rfl

/-- The check byte is the last, over all the bytes before it (R157). -/
theorem requestFrame_check :
    byteAt (requestFrame p code tag params) (params.length + 4) =
      frameCheck p ((requestFrame p code tag params).take (params.length + 4)) := by
  have earlier : (leBytes 2 (params.length + 5) ++ [code, tag] ++ params).length = params.length + 4 := by
    simp only [List.length_append, leBytes_length, List.length_cons, List.length_nil]
    omega
  rw [requestFrame, List.take_left' earlier, byteAt_behind earlier.le, earlier, Nat.sub_self]
  rfl

theorem requestFrame_field {params : List Byte} (fits : params.length ≤ 59) :
    fieldAt (requestFrame p code tag params) 0 2 = params.length + 5 := by
  rw [requestFrame, List.append_assoc, List.append_assoc, fieldAt_head]
  omega

end

theorem frameCheck_other (p : Port) (earlier : List Byte) : frameCheck p earlier ≠ frameCheck p.other earlier := by
  rw [frameCheck, frameCheck, Ne, BitVec.xor_right_inj]
  cases p <;> decide

section
variable {p : Port} {code tag : Byte} {params : List Byte} (fits : params.length ≤ 59)
include fits

theorem requestFrame_lengthRight :
    5 ≤ fieldAt (requestFrame p code tag params) 0 2 ∧ fieldAt (requestFrame p code tag params) 0 2 ≤ 64
      ∧ fieldAt (requestFrame p code tag params) 0 2 = (requestFrame p code tag params).length := by
  rw [requestFrame_field p code tag fits, requestFrame_length]
  omega

/-- A frame that carries the parameters its code requires passes the four checks on its own port (R157). -/
theorem frameFailure_requestFrame (required : requiredParams code params = some params.length) :
    frameFailure p (requestFrame p code tag params) = none := by
  rw [frameFailure_checked (requestFrame_lengthRight fits) (by rw [requestFrame_length]; exact requestFrame_check ..),
    requestFrame_code, requestFrame_params, required, Option.elim_some, if_pos rfl]

/-- On the other port it fails the check byte, whose constant is another (R157). -/
theorem frameFailure_requestFrame_other : frameFailure p.other (requestFrame p code tag params) = some .check := by
  refine frameFailure_badCheck (requestFrame_lengthRight fits) ?_
  rw [requestFrame_length, show params.length + 5 - 1 = params.length + 4 from rfl, requestFrame_check]
  exact frameCheck_other p _

end

/-- Every well-formed request has a frame of R174, by the lemma of its row. -/
theorem framing (i : Instr) : Laws.Framing.Statement i := by
  cases i
  case status => exact Laws.Framing.status _ _
  case readRecords => exact Laws.Framing.readRecords _ _ _ _
  case collect => exact Laws.Framing.collect _ _ _
  case readLive => exact Laws.Framing.readLive _ _
  case readMatrix => exact Laws.Framing.readMatrix _ _
  case readSettings => exact Laws.Framing.readSettings _ _ _ _
  case lodge => exact Laws.Framing.lodge _ _ _
  case withdraw => exact Laws.Framing.withdraw _ _
  case timeSet => exact Laws.Framing.timeSet _ _ _
  case timeStep => exact Laws.Framing.timeStep _ _ _
  case timeBadForm => exact Laws.Framing.timeBadForm _ _ _ _
  case setNotify => exact Laws.Framing.setNotify _ _ _
  case flush => exact Laws.Framing.flush _ _
  all_goals exact Laws.Framing.noFrame rfl

/-! ### The request read back (R170, R174) -/

/-- A field as wide as the number it holds reads back. -/
theorem ofNat_field {w bits : Nat} (width : 256 ^ w = 2 ^ bits) (x : BitVec bits) (after : List Byte) :
    BitVec.ofNat bits (fieldAt (leBytes w x.toNat ++ after) 0 w) = x := by
  rw [fieldAt_head, width, Nat.mod_eq_of_lt x.isLt, BitVec.ofNat_toNat, BitVec.setWidth_eq]

theorem ofNat_field_alone {w bits : Nat} (width : 256 ^ w = 2 ^ bits) (x : BitVec bits) :
    BitVec.ofNat bits (fieldAt (leBytes w x.toNat) 0 w) = x := by simpa using ofNat_field width x []

/-- The pairs of a LODGE read back in their order. -/
theorem pairsOf_flatMap (pairs : List RawPair) : pairsOf pairs.length (pairs.flatMap pairBytes) = pairs := by
  induction pairs with
  | nil => rfl
  | cons r rest ih =>
    have value : BitVec.ofNat 32 (fieldAt (pairBytes r ++ rest.flatMap pairBytes) 1 4) = r.value := by
      rw [pairBytes, List.cons_append, fieldAt_past (Nat.le_refl 1)]
      exact ofNat_field rfl r.value _
    rw [List.flatMap_cons, List.length_cons, pairsOf, value, List.drop_left' (pairBytes_length r), ih]
    rfl

/-- The value of a TIME request stands behind its form. -/
theorem ofNat_timeValue (form : Byte) (value : BitVec 64) :
    BitVec.ofNat 64 (fieldAt (form :: leBytes 8 value.toNat) 1 8) = value := by
  rw [fieldAt_past (Nat.le_refl 1)]
  exact ofNat_field_alone rfl value

/-- The frame of a well-formed request reads back as the request, every operand at its value. -/
theorem requestOf_frameOf {i : Instr} {p : Port} {frame : List Byte} (wf : i.wf = true) (framed : frameOf i = some frame)
    (sender : senderOf i = some p) : requestOf p frame = some i := by
  cases i <;> simp only [frameOf, reduceCtorEq, Option.some.injEq] at framed <;> subst framed
    <;> simp only [senderOf, Option.some.injEq] at sender <;> subst sender
    <;> rw [requestOf, requestFrame_code, requestFrame_tag, requestFrame_params]
  case readRecords q tag first count =>
    have counted : byteAt (leBytes 4 first.toNat ++ [count]) 4 = count := rfl
    simp [ofNat_field (w := 4) rfl first, counted]
  case collect q tag number => simp [ofNat_field_alone (w := 4) rfl number]
  case lodge q tag pairs =>
    have few : pairs.length ≤ 11 := by simpa [Instr.wf] using wf
    have counted : (BitVec.ofNat 8 pairs.length).toNat = pairs.length := Nat.mod_eq_of_lt (by omega)
    have read := pairsOf_flatMap pairs
    simp [byteAt, counted, read]
  case timeSet q tag value => simp [ofNat_timeValue, byteAt]
  case timeStep q tag value => simp [ofNat_timeValue, byteAt]
  case timeBadForm q tag form value =>
    have bad : 2 ≤ form.toNat := by simpa [Instr.wf] using wf
    obtain ⟨n, hn⟩ := Nat.exists_eq_add_of_le' bad
    have first : byteAt (form :: leBytes 8 value.toNat) 0 = form := rfl
    simp [ofNat_timeValue, first, hn]
  case setNotify q tag level => simp [ofNat_field_alone (w := 2) rfl level]
  all_goals rfl

/-- Settles O45: the checks by the frame's layout, the request by `requestOf_frameOf`. -/
theorem requestFramesRoundTrip : Obligations.RequestFramesRoundTrip := by
  intro i p frame wf framed sender
  have read := requestOf_frameOf wf framed sender
  obtain ⟨q, code, tag, params, rfl, own, required, fits⟩ := framing i wf frame framed
  obtain rfl : q = p := Option.some.inj (own.symm.trans sender)
  obtain ⟨low, high, length⟩ := requestFrame_lengthRight (p := q) (code := code) (tag := tag) fits
  rw [length] at low high
  exact ⟨length, low, high, frameFailure_requestFrame fits required, read, frameFailure_requestFrame_other fits⟩

end Sys2Proof.Machine
end

section
/-! One step, by the queue: the front command runs, and an empty queue idles (O59). -/

namespace Sys2Proof.Machine

open Sys2Proof

/-- With a command waiting, a step is that command on the state with the queue's rest. -/
theorem step_of_pending_cons {s : State} {c : Instr} {queue : List Instr} (front : s.pending = c :: queue) :
    step s = exec c (s.withPending queue) := by
  rw [step, front]

/-- With no command waiting, the part idles. -/
theorem step_of_pending_nil {s : State} (idle : s.pending = []) : step s = .next s := by
  rw [step, idle]

/-- Settles O59: the front command's step, after which the second `withPending` replaces the first; and the idle step. -/
theorem stepRunsTheFrontCommand : Obligations.StepRunsTheFrontCommand := by
  intro c queue s
  constructor
  · calc step (s.withPending (c :: queue))
        = exec c ((s.withPending (c :: queue)).withPending queue) := step_of_pending_cons (s.withPending_pending _)
      _ = exec c (s.withPending queue) := by rw [State.withPending_withPending]
  · exact step_of_pending_nil (s.withPending_pending [])

end Sys2Proof.Machine
end

section
/-! What each operation leaves of the store's array, of the operation in flight and of the pending operation: the relation
`ArrayRests`, in which the array and the operation in flight stand, with one lemma for each operation that touches neither. -/

namespace Sys2Proof.Machine

open Sys2Proof

/-! ### The relation -/

/-- `t` is `s` after an operation that leaves the array and the operation in flight, and after which a pending operation that
was the one asked for still is. -/
structure ArrayRests (s t : State) : Prop where
  array : t.store.array = s.store.array
  inFlight : t.store.inFlight = s.store.inFlight
  asks : s.store.asksDue → t.store.asksDue

theorem ArrayRests.refl (s : State) : ArrayRests s s := ⟨rfl, rfl, id⟩

theorem ArrayRests.trans {s t u : State} (h : ArrayRests s t) (k : ArrayRests t u) : ArrayRests s u :=
  ⟨k.array.trans h.array, k.inFlight.trans h.inFlight, k.asks ∘ h.asks⟩

/-- `ArrayRests.trans` with its steps named from the last. -/
theorem ArrayRests.after {s t u : State} (k : ArrayRests t u) (h : ArrayRests s t) : ArrayRests s u := h.trans k

/-- The store itself stands. -/
theorem ArrayRests.same {s t : State} (h : t.store = s.store) : ArrayRests s t := by
  refine ⟨?_, ?_, ?_⟩ <;> rw [h]
  exact id

/-- Whatever was done before, the pending operation is brought up to date. -/
theorem ArrayRests.finished {s t : State} (array : t.store.array = s.store.array)
    (inFlight : t.store.inFlight = s.store.inFlight) : ArrayRests s t.finish :=
  ⟨array, inFlight, fun _ => t.finish_asksDue⟩

theorem StoreTakes.array {t u : Store} (h : StoreTakes t u) : u.array = t.array := by rw [h.rest]

theorem StoreTakes.inFlight {t u : Store} (h : StoreTakes t u) : u.inFlight = t.inFlight := by rw [h.rest]

theorem OnlyPorts.store {s t : State} (h : OnlyPorts s t) : t.store = s.store := by rw [h]

theorem Asked.array {s t : State} (h : Asked s t) : t.store.array = s.store.array := by rw [h]

theorem Asked.inFlight {s t : State} (h : Asked s t) : t.store.inFlight = s.store.inFlight := by rw [h]

/-! ### Records, windows and sets -/

theorem State.deliver_rests (s : State) (records : List Record) : ArrayRests s (s.deliver records) :=
  ⟨(s.deliver_recorded records).store.array, (s.deliver_recorded records).store.inFlight, State.deliver_asksDue records s⟩

theorem State.expireBurst_rests (s : State) : ArrayRests s s.expireBurst :=
  (State.deliver_rests _ _).after ⟨rfl, rfl, id⟩

theorem State.settleBurst_rests (s : State) (elapsed : Nat) : ArrayRests s (s.settleBurst elapsed) := by
  unfold State.settleBurst
  split
  · exact s.expireBurst_rests
  · exact .refl _

theorem State.takeWindow_rests (s : State) (v : ValueSet) : ArrayRests s (s.takeWindow v) := by
  unfold State.takeWindow
  split
  · exact (State.deliver_rests _ _).after ⟨rfl, rfl, id⟩
  · unfold State.invalidWindow
    dsimp only
    split <;> exact ⟨rfl, rfl, id⟩

theorem State.placeBoundary_rests (s : State) (n : Nat) : ArrayRests s (s.placeBoundary n) :=
  (State.takeWindow_rests _ _).after ((State.settleBurst_rests _ _).after ⟨rfl, rfl, id⟩)

theorem State.loseReference_rests (s : State) : ArrayRests s s.loseReference :=
  (State.placeBoundary_rests _ _).after ⟨rfl, rfl, id⟩

theorem State.freeRunBoundary_rests (s : State) : ArrayRests s s.freeRunBoundary := State.placeBoundary_rests _ _

theorem State.settleBoundary_rests (s : State) : ArrayRests s s.settleBoundary := by
  unfold State.settleBoundary
  split
  · exact s.loseReference_rests
  · split
    · exact s.freeRunBoundary_rests
    · exact .refl _

theorem State.countedCrossing_rests (s : State) (d : Direction) : ArrayRests s (s.countedCrossing d) := by
  unfold State.countedCrossing
  dsimp only
  split
  · exact (State.placeBoundary_rests _ _).after ⟨rfl, rfl, id⟩
  · split
    · exact (State.placeBoundary_rests _ _).after ⟨rfl, rfl, id⟩
    · exact ⟨rfl, rfl, id⟩

theorem State.examine_rests (s : State) (x : Int) : ArrayRests s (s.examine x) := by
  unfold State.examine
  dsimp only
  split
  · exact ⟨rfl, rfl, id⟩
  · split
    · exact (State.countedCrossing_rests _ _).after ⟨rfl, rfl, id⟩
    · exact ⟨rfl, rfl, id⟩

theorem State.handOn_rests (s : State) (x : SampleSet) (b : Bool) : ArrayRests s (s.handOn x b) :=
  (State.examine_rests _ _).after (s.settleBoundary_rests.trans ⟨rfl, rfl, id⟩)

theorem State.substitute_rests (s : State) : ArrayRests s s.substitute :=
  (State.handOn_rests _ _ _).after ⟨rfl, rfl, id⟩

theorem State.substitutes_rests (n : Nat) (s : State) : ArrayRests s (State.substitutes n s) := by
  induction n generalizing s with
  | zero => exact .refl _
  | succ n ih => exact s.substitute_rests.trans (ih _)

theorem State.enterSilent_rests (s : State) : ArrayRests s s.enterSilent :=
  (State.substitutes_rests _ _).after ⟨rfl, rfl, id⟩

theorem State.settleSilence_rests (s : State) : ArrayRests s s.settleSilence := by
  unfold State.settleSilence
  split
  · exact s.enterSilent_rests
  · exact .refl _

theorem State.takeSet_rests (s : State) (number : Byte) (x : SampleSet) : ArrayRests s (s.takeSet number x) :=
  (State.handOn_rests _ _ _).after ⟨rfl, rfl, id⟩

theorem State.goodSet_rests (s : State) (number : Byte) (x : SampleSet) : ArrayRests s (s.goodSet number x) := by
  have h : ArrayRests s { s with link := { s.link with state := .running, silence := 0 } } := ⟨rfl, rfl, id⟩
  unfold State.goodSet
  dsimp only
  split
  · exact h.trans (State.takeSet_rests _ _ _)
  · split
    · exact h
    · exact h.trans ((State.substitutes_rests _ _).trans (State.takeSet_rests _ _ _))

theorem State.failedSet_rests (s : State) : ArrayRests s s.failedSet := by
  unfold State.failedSet
  split
  · exact (State.substitute_rests _).after ⟨rfl, rfl, id⟩
  · exact .refl _

theorem State.transfer_rests (s : State) (bytes : List Byte) : ArrayRests s (s.transfer bytes) := by
  unfold State.transfer
  split
  · refine s.settleSilence_rests.trans ?_
    dsimp only
    split
    · exact State.goodSet_rests _ _ _
    · exact State.failedSet_rests _
  · exact .refl _

theorem State.tick_rests (s : State) : ArrayRests s s.tick := by
  unfold State.tick
  split
  · refine s.settleSilence_rests.trans ?_
    dsimp only
    split
    · exact ⟨rfl, rfl, id⟩
    · exact State.substitute_rests _
  · exact .refl _

/-! ### The ports -/

theorem OnlyPorts.rests {s t : State} (h : OnlyPorts s t) : ArrayRests s t := .same h.store

theorem Asked.finish_rests {s t : State} (h : Asked s t) : ArrayRests s t.finish :=
  ArrayRests.finished h.array h.inFlight

theorem State.complete_rests (s : State) (p : Port) (c g : Byte) (x : Status) (o : Nat) (l : List Byte) :
    ArrayRests s (s.complete p c g x o l) := (s.complete_ports p c g x o l).rests

theorem State.serveCollect_rests (s : State) (p : Port) (tag : Byte) (number : BitVec 32) :
    ArrayRests s (s.serveCollect p tag number) := by
  unfold State.serveCollect
  dsimp only
  split
  · exact State.complete_rests _ _ _ _ _ _ _
  · refine Asked.finish_rests (Asked.trans (OnlyPorts.asked ?_) (State.judgeHeld_asked _))
    exact (State.setPort_ports _ _ _).trans (State.complete_ports _ _ _ _ _ _ _)

theorem State.serveLodge_rests (s : State) (p : Port) (tag : Byte) (pairs : List RawPair) :
    ArrayRests s (s.serveLodge p tag pairs) := by
  unfold State.serveLodge
  dsimp only
  split
  · exact Asked.finish_rests ((State.setSlot_asked _ _ _).trans (State.complete_ports _ _ _ _ _ _ _).asked)
  · exact State.complete_rests _ _ _ _ _ _ _

theorem State.initialSet_rests (s : State) (p : Port) (x : Int) : ArrayRests s (s.initialSet p x) := by
  unfold State.initialSet
  dsimp only
  refine (State.deliver_rests _ _).after (.same ?_)
  rw [State.intervalInitial_rest]

theorem State.smallStep_rests (s : State) (p : Port) (x : Int) : ArrayRests s (s.smallStep p x) := by
  unfold State.smallStep
  dsimp only
  refine (State.deliver_rests _ _).after (.same ?_)
  show (State.intervalStep _ _).1.store = _
  rw [State.intervalStep_rest]

theorem State.serveTimeSet_rests (s : State) (p : Port) (tag : Byte) (v : BitVec 64) :
    ArrayRests s (s.serveTimeSet p tag v) := by
  unfold State.serveTimeSet
  dsimp only
  refine (State.complete_rests _ _ _ _ _ _ _).after ?_
  split
  · exact State.initialSet_rests _ _ _
  · exact .refl _

theorem State.serveTimeStep_rests (s : State) (p : Port) (tag : Byte) (v : BitVec 64) :
    ArrayRests s (s.serveTimeStep p tag v) := by
  unfold State.serveTimeStep
  dsimp only
  refine (State.complete_rests _ _ _ _ _ _ _).after ?_
  split
  · exact State.smallStep_rests _ _ _
  · exact .refl _

theorem State.serveTimeForm_rests (s : State) (p : Port) (tag form : Byte) (v : BitVec 64) :
    ArrayRests s (s.serveTimeForm p tag form v) := by
  unfold State.serveTimeForm
  split
  · exact State.serveTimeSet_rests _ _ _ _
  · exact State.serveTimeStep_rests _ _ _ _
  · exact State.complete_rests _ _ _ _ _ _ _

/-- Whatever request is served, the array and the operation in flight stand. -/
theorem State.serve_rests (i : Instr) (s : State) : ArrayRests s (s.serve i) := by
  cases i <;> simp only [State.serve] <;> try exact .refl _
  case status => exact State.complete_rests _ _ _ _ _ _ _
  case readRecords => exact (State.prepare_ports _ _ _).rests
  case collect => exact State.serveCollect_rests _ _ _ _
  case readLive => exact State.complete_rests _ _ _ _ _ _ _
  case readMatrix => exact State.complete_rests _ _ _ _ _ _ _
  case readSettings =>
    unfold State.serveReadSettings
    split <;> exact State.complete_rests _ _ _ _ _ _ _
  case lodge => exact State.serveLodge_rests _ _ _ _
  case withdraw => exact Asked.finish_rests ((State.setSlot_asked _ _ _).trans (State.complete_ports _ _ _ _ _ _ _).asked)
  case timeSet => exact State.serveTimeSet_rests _ _ _ _
  case timeStep => exact State.serveTimeStep_rests _ _ _ _
  case timeBadForm => exact State.serveTimeForm_rests _ _ _ _ _
  case setNotify =>
    exact Asked.finish_rests ((State.setPort_ports _ _ _).trans (State.complete_ports _ _ _ _ _ _ _)).asked
  case flush =>
    unfold State.serveFlush
    dsimp only
    split
    · exact State.complete_rests _ _ _ _ _ _ _
    · exact (State.prepare_ports _ _ _).rests

theorem State.serveFrame_rests (s : State) (p : Port) (bytes : List Byte) : ArrayRests s (s.serveFrame p bytes) := by
  unfold State.serveFrame
  split
  · exact (State.refuseFrame_ports _ _ _ _ _).rests
  · split
    · exact State.serve_rests _ _
    · exact .refl _

theorem State.request_rests {s : State} {p : Port} {frame : List Byte} {act : State → State}
    (h : ∀ t, ArrayRests t (act t)) : ArrayRests s (s.request p frame act) := by
  unfold State.request
  split
  · exact (h _).after ((State.endPeriod_ports _ _ _ _).trans (State.setPort_ports _ _ _)).rests
  · exact (State.endPeriod_ports _ _ _ _).rests

theorem State.periodEnds_rests (s : State) (p : Port) (bytes : List Byte) : ArrayRests s (s.periodEnds p bytes) := by
  unfold State.periodEnds
  split
  · exact (State.endPeriod_ports _ _ _ _).rests
  · split
    · exact (State.readEnds_ports _ _ _).rests
    · exact State.request_rests fun t => t.serveFrame_rests p bytes

/-- A command that a port's master sends leaves the array and the operation in flight. -/
theorem exec_sender_rests {i : Instr} {p : Port} {s t : State} (sent : senderOf i = some p) (h : exec i s = .next t) :
    ArrayRests s t := by
  have served : ∀ q frame j, s.request q frame (fun u => u.serve j) = t → ArrayRests s t :=
    fun q frame j e => e ▸ State.request_rests fun u => u.serve_rests j
  cases i <;> simp only [senderOf, reduceCtorEq] at sent <;> injection h with h
  case readPeriod => exact h ▸ (State.readEnds_ports _ _ _).rests
  case invalidRequestFrame => exact h ▸ State.periodEnds_rests _ _ _
  case selectPeriodStart => exact h ▸ (State.setPort_ports _ _ _).rests
  case lodge q g pairs =>
    refine h ▸ State.request_rests fun u => ?_
    split
    · exact u.serve_rests (.lodge q g pairs)
    · exact (State.refuseFrame_ports _ _ _ _ _).rests
  case status q g => exact served _ _ (.status q g) h
  case readRecords q g f c => exact served _ _ (.readRecords q g f c) h
  case collect q g n => exact served _ _ (.collect q g n) h
  case readLive q g => exact served _ _ (.readLive q g) h
  case readMatrix q g => exact served _ _ (.readMatrix q g) h
  case readSettings q g f l => exact served _ _ (.readSettings q g f l) h
  case withdraw q g => exact served _ _ (.withdraw q g) h
  case timeSet q g v => exact served _ _ (.timeSet q g v) h
  case timeStep q g v => exact served _ _ (.timeStep q g v) h
  case timeBadForm q g f v => exact served _ _ (.timeBadForm q g f v) h
  case setNotify q g v => exact served _ _ (.setNotify q g v) h
  case flush q g => exact served _ _ (.flush q g) h

end Sys2Proof.Machine
end

section
/-! O22: no command takes the array out of its canonical form. Most commands leave the array and the operation in flight
(`exec_rests`); the others write bytes, blank blocks or are cut short, and each of these keeps the form. -/

namespace Sys2Proof.Machine

open Sys2Proof

/-! ### The operations of the store, a boundary and a restart that leave the array -/

/-- The array and the operation in flight stand. -/
structure ArrayStands (s t : State) : Prop where
  array : t.store.array = s.store.array
  inFlight : t.store.inFlight = s.store.inFlight

theorem ArrayStands.refl (s : State) : ArrayStands s s := ⟨rfl, rfl⟩

theorem ArrayStands.trans {s t u : State} (h : ArrayStands s t) (k : ArrayStands t u) : ArrayStands s u :=
  ⟨k.array.trans h.array, k.inFlight.trans h.inFlight⟩

/-- `ArrayStands.trans` with its steps named from the last. -/
theorem ArrayStands.after {s t u : State} (k : ArrayStands t u) (h : ArrayStands s t) : ArrayStands s u := h.trans k

theorem ArrayRests.stands {s t : State} (h : ArrayRests s t) : ArrayStands s t := ⟨h.array, h.inFlight⟩

/-- What follows a change brings the pending operation up to date. -/
theorem ArrayStands.finished {s t : State} (h : ArrayStands s t) : ArrayRests s t.finish := .finished h.array h.inFlight

theorem State.endDrain_stands (s : State) : ArrayStands s s.endDrain := by
  unfold State.endDrain
  split <;> exact ⟨rfl, rfl⟩

theorem Store.holdBacks_array (now : Stamp) (entries : List Entry) (t : Store) :
    (entries.foldl (fun t e => t.holdBack now e.record) t).array = t.array
      ∧ (entries.foldl (fun t e => t.holdBack now e.record) t).inFlight = t.inFlight := by
  induction entries generalizing t with
  | nil => exact ⟨rfl, rfl⟩
  | cons e rest ih => exact ih (t.holdBack now e.record)

theorem State.takeOutQueue_stands (s : State) : ArrayStands s s.takeOutQueue :=
  have held := Store.holdBacks_array s.now s.store.queue s.store
  ⟨held.1, held.2⟩

theorem State.beginReset_stands (s : State) : ArrayStands s s.beginReset := by
  unfold State.beginReset
  refine (State.endDrain_stands _).after ?_
  split
  · exact (State.takeOutQueue_stands _).after ⟨rfl, rfl⟩
  · exact ⟨rfl, rfl⟩

theorem State.handOver_stands (s : State) (r : Record) : ArrayStands s (s.handOver r) :=
  ⟨(s.handOver_recorded r).store.array, (s.handOver_recorded r).store.inFlight⟩

theorem State.writeArea_stands (s : State) (w : AreaWrite) : ArrayStands s (s.writeArea w) := ⟨rfl, rfl⟩

theorem State.commitNotices_stands (s : State) (step : Option Int) : ArrayStands s (s.commitNotices step) := by
  rw [State.commitNotices_rest]
  exact ⟨rfl, rfl⟩

theorem State.commitEpoch_stands (s : State) (epoch : Nat) : ArrayStands s (s.commitEpoch epoch) := by
  have reset : ArrayStands s (s.writeEpoch epoch).beginReset := (State.beginReset_stands _).after ⟨rfl, rfl⟩
  exact reset.trans ⟨rfl, rfl⟩

theorem State.commitRecord_stands (s : State) (boundary : Nat) : ArrayStands s (s.commitRecord boundary) := by
  unfold State.commitRecord
  exact (State.writeArea_stands _ _).after ((State.handOver_stands _ _).after ⟨rfl, rfl⟩)

theorem State.boundaryNotice_stands (s : State) (boundary : Nat) : ArrayStands s (s.boundaryNotice boundary) := by
  unfold State.boundaryNotice
  split
  · dsimp only
    split
    · exact (State.commitNotices_stands _ _).after (s.commitEpoch_stands _)
    · exact (State.commitNotices_stands _ _).after (s.commitRecord_stands _)
  · exact .refl s

theorem State.takeBoundary_rests (s : State) : ArrayRests s s.takeBoundary := by
  unfold State.takeBoundary
  refine ArrayStands.finished ((State.boundaryNotice_stands _ _).after ?_)
  exact (State.deliver_rests s _).stands.trans ⟨rfl, rfl⟩

theorem State.judgeHeld_stands (s : State) : ArrayStands s s.judgeHeld := by
  unfold State.judgeHeld
  split <;> exact ⟨rfl, rfl⟩

theorem Store.noteWritten_array (t : Store) (note : Option ResetNote) :
    (t.noteWritten note).array = t.array ∧ (t.noteWritten note).inFlight = t.inFlight := by
  unfold Store.noteWritten
  split <;> exact ⟨rfl, rfl⟩

theorem State.completeAreaWrite_rests (s : State) (w : AreaWrite) (rest : List AreaWrite) :
    ArrayRests s (s.completeAreaWrite w rest) :=
  have written := s.store.noteWritten_array (w.note.getD none)
  .finished written.1 written.2

theorem State.beginRestart_rests (s : State) (kind : RestartKind) (strap : Bool) : ArrayRests s (s.beginRestart kind strap) := by
  unfold State.beginRestart
  dsimp only
  split <;> exact .finished rfl rfl

theorem State.enterRetain_rests (s : State) (complete : Bool) : ArrayRests s (s.enterRetain complete) := .finished rfl rfl

/-- The commands that may put an operation in flight without touching the array: the arbiter's grant, and the queueing of a
GAP record, which in HOLDUP starts the head's write. -/
def startsOperation : Instr → Bool
  | .arbiterGrant | .heldBackGapQueue => true
  | _ => false

theorem exec_link_rests {i : Instr} {s t : State} (link : ofTheLink i = true) (h : exec i s = .next t) : ArrayRests s t := by
  cases i <;> simp only [ofTheLink, Bool.false_eq_true] at link <;> injection h with h <;> subst h
  case goodTransfer => exact s.transfer_rests _
  case failedTransfer => exact s.transfer_rests _
  case linkTick => exact s.tick_rests
  case silentEntry => split; exacts [s.enterSilent_rests, .refl s]
  case referenceLoss => split; exacts [s.loseReference_rests, .refl s]
  case freeRunBoundary => split; exacts [s.freeRunBoundary_rests, .refl s]

theorem State.countElapsed_store (s : State) : s.countElapsed.store = s.store := by
  unfold State.countElapsed
  split <;> rfl

theorem State.keepClock_store (s : State) : s.keepClock.store = s.store := by
  unfold State.keepClock
  dsimp only
  split <;> rfl

/-- A command that neither touches the array nor starts an operation leaves the array and the operation in flight, and a
pending operation that was the one asked for still is. -/
theorem exec_rests {i : Instr} {s t : State} (touches : touchesArray i = false) (starts : startsOperation i = false)
    (h : exec i s = .next t) : ArrayRests s t := by
  by_cases link : ofTheLink i = true
  · exact exec_link_rests link h
  by_cases sent : ∃ p, senderOf i = some p
  · obtain ⟨p, sent⟩ := sent
    exact exec_sender_rests sent h
  cases i <;> simp [ofTheLink, senderOf, touchesArray, startsOperation] at link sent touches starts <;> injection h with h <;>
    subst h
  case burstExpiry => split; exacts [s.expireBurst_rests, .refl s]
  case intervalBoundary => split; exacts [s.takeBoundary_rests, .refl s]
  case proposalExpiry p => split; exacts [.finished rfl rfl, .refl s]
  case releaseCheck =>
    split
    · exact .refl s
    · exact ArrayStands.finished ((State.judgeHeld_stands _).after ⟨rfl, rfl⟩)
  case areaWriteComplete => split; exacts [.refl s, s.completeAreaWrite_rests _ _]
  case flushComplete p => split; exacts [.refl s, s.complete_rests _ _ _ _ _ _]
  case elapsedTick =>
    split
    · exact .refl s
    · exact .same (by rw [State.keepClock_store, State.countElapsed_store])
  case storeHoldupDone =>
    split
    · exact (State.enterRetain_rests _ _).after ⟨rfl, rfl, id⟩
    · exact .refl s
  case supplyGoodRise =>
    split
    · exact .refl s
    · split <;> exact ⟨rfl, rfl, id⟩
  case steadinessWaitDone strap => split; exacts [s.beginRestart_rests _ strap, .refl s]
  case retentionLoss => split; exacts [⟨rfl, rfl, id⟩, .refl s]
  case resetRelease strap =>
    split
    · exact .refl s
    · unfold State.releaseReset
      split
      · exact (State.beginRestart_rests _ _ strap).after ⟨rfl, rfl, id⟩
      · split
        · exact (State.beginRestart_rests _ _ strap).after ⟨rfl, rfl, id⟩
        · exact ⟨rfl, rfl, id⟩

/-! ### The operations that start an operation -/

theorem State.holdupWrite_array (s : State) : s.holdupWrite.store.array = s.store.array := by
  rw [State.holdupWrite_rest]

theorem State.queueGap_stands (s : State) : ArrayStands s { s with store := s.store.queueGap } := by
  unfold Store.queueGap
  split
  · exact ⟨rfl, rfl⟩
  · split <;> exact ⟨rfl, rfl⟩

theorem State.queueGapRecord_array (s : State) : s.queueGapRecord.store.array = s.store.array :=
  (State.holdupWrite_array _).trans s.queueGap_stands.array

theorem Store.startWrite_array (t : Store) : t.startWrite.array = t.array := by
  unfold Store.startWrite
  split <;> rfl

theorem Store.enterBlank_array (t : Store) : t.enterBlank.array = t.array := by
  unfold Store.enterBlank
  split <;> rfl

theorem State.judgeErase_array (s : State) (block : Nat) : (s.judgeErase block).store.array = s.store.array := by
  unfold State.judgeErase
  split
  · rfl
  · split
    · exact (State.endDrain_stands _).array.trans s.takeOutQueue_stands.array
    · rfl

theorem State.startPending_array (s : State) : s.startPending.store.array = s.store.array := by
  unfold State.startPending
  split
  · rfl
  · exact (Store.startWrite_array _).trans (Store.enterBlank_array _)
  · rfl
  · exact s.judgeErase_array _
  · rfl
  · split <;> rfl

theorem State.serveRead_rests (s : State) (p : Port) : ArrayRests s (s.serveRead p) := by
  rw [State.serveRead_rest]
  exact ⟨rfl, rfl, id⟩

theorem State.grant_array (s : State) : s.grant.store.array = s.store.array := by
  unfold State.grant
  split
  · split
    · exact (s.serveRead_rests _).array
    · exact s.startPending_array
  · exact s.holdupWrite_array
  all_goals rfl

/-- A command that does not touch the array leaves it. -/
theorem exec_array {i : Instr} {s t : State} (touches : touchesArray i = false) (h : exec i s = .next t) :
    t.store.array = s.store.array := by
  by_cases starts : startsOperation i = true
  · cases i <;> simp only [startsOperation, Bool.false_eq_true] at starts <;> injection h with h <;> subst h
    case heldBackGapQueue => split; exacts [s.queueGapRecord_array, rfl]
    case arbiterGrant => split; exacts [s.grant_array, rfl]
  · exact (exec_rests touches (by simpa using starts) h).array

/-! ### The operations that touch the array -/

/-- From `s` to `t` a canonical array stays canonical. -/
def KeepsCanonical (s t : State) : Prop := Memory.wf s.store.array = true → Memory.wf t.store.array = true

theorem KeepsCanonical.refl (s : State) : KeepsCanonical s s := id

theorem KeepsCanonical.trans {s t u : State} (h : KeepsCanonical s t) (k : KeepsCanonical t u) : KeepsCanonical s u := k ∘ h

/-- `KeepsCanonical.trans` with its steps named from the last. -/
theorem KeepsCanonical.after {s t u : State} (k : KeepsCanonical t u) (h : KeepsCanonical s t) : KeepsCanonical s u := k ∘ h

theorem KeepsCanonical.same {s t : State} (h : t.store.array = s.store.array) : KeepsCanonical s t := fun wf => h ▸ wf

theorem State.afterCompletion_array (s : State) : s.afterCompletion.store.array = s.store.array := by
  refine (State.holdupWrite_array _).trans ?_
  split
  · exact s.endDrain_stands.array
  · rfl

/-- What a completion makes of the store, and what follows it. -/
theorem State.afterCompletion_canonical {s : State} {u : Store} (h : Memory.wf s.store.array = true → Memory.wf u.array = true) :
    KeepsCanonical s { s with store := u }.afterCompletion := fun wf => (State.afterCompletion_array _).symm ▸ h wf

theorem Store.commitHead_wf {t : Store} {bytes : List Byte} {chain : Chain} (wf : Memory.wf t.array = true) :
    Memory.wf (t.commitHead bytes chain).array = true := by
  unfold Store.commitHead
  split
  · exact wf
  · exact Memory.writeBytes_wf wf

theorem State.tear_canonical (s : State) : KeepsCanonical s s.tear := by
  intro wf
  unfold State.tear
  split
  · exact wf
  · exact Store.tornArray_wf wf

theorem State.stopScan_canonical (s : State) : KeepsCanonical s s.stopScan := by
  intro wf
  unfold State.stopScan
  split
  · exact Memory.eraseBlocks_wf wf
  · exact wf

theorem State.warn_array (s : State) : s.warn.store.array = s.store.array := by
  unfold State.warn
  dsimp only
  rw [State.finish_store, Store.settle_array, State.holdupWrite_array, (State.deliver_rests _ _).array]
  show (s.settleBurst s.now.elapsed).store.array = _
  exact (s.settleBurst_rests _).array

theorem State.holdByReset_canonical (s : State) : KeepsCanonical s s.holdByReset :=
  .after (.same rfl) (s.stopScan_canonical.trans (State.tear_canonical _))

theorem State.settleEpoch_stands (s : State) : ArrayStands s s.settleEpoch := by
  unfold State.settleEpoch
  split
  · exact ⟨rfl, rfl⟩
  · split
    · exact (State.endDrain_stands _).after ⟨rfl, rfl⟩
    · split
      · unfold State.beginEpoch
        dsimp only
        split <;> exact ⟨rfl, rfl⟩
      · split <;> exact ⟨rfl, rfl⟩

theorem State.recoverSettings_stands (s : State) (records : List Stored) : ArrayStands s (s.recoverSettings records) := by
  have newer : ∀ (u : State) found, ArrayStands u (u.applyNewer found) := fun u found => by
    rw [State.applyNewer_rest]
    exact ⟨rfl, rfl⟩
  unfold State.recoverSettings
  dsimp only
  split
  · split
    · exact (newer _ _).after ⟨rfl, rfl⟩
    · unfold State.restate
      exact (State.writeArea_stands _ _).after ((State.handOver_stands _ _).after ((newer _ _).after ⟨rfl, rfl⟩))
  · exact ⟨rfl, rfl⟩

theorem State.recoverCold_stands (s : State) (r : ScanResult) : ArrayStands s (s.recoverCold r) := ⟨rfl, rfl⟩

/-- The scan's stage leaves the array without its damaged blocks (R118), and with nothing in flight (R119). -/
theorem State.finishScan_stands (s : State) (kind : RestartKind) (r : ScanResult) :
    ArrayStands { s with store := s.store.scannedAs r s.bank.areaAhead } (s.finishScan kind r) := by
  unfold State.finishScan
  dsimp only
  refine (State.recoverSettings_stands _ _).after ((State.queueGap_stands _).after ?_)
  have settled : ArrayStands { s with store := s.store.scannedAs r s.bank.areaAhead }
      { s with store := (s.store.scannedAs r s.bank.areaAhead).matchQueue }.settleEpoch :=
    (State.settleEpoch_stands _).after ⟨rfl, rfl⟩
  split
  · exact settled.trans (State.recoverCold_stands _ _)
  · exact settled

theorem State.startMeasuring_rests (s : State) (kind : RestartKind) : ArrayRests s (s.startMeasuring kind) :=
  ArrayStands.finished ((State.deliver_rests _ _).stands.after ⟨rfl, rfl⟩)

theorem State.endScan_canonical (s : State) (kind : RestartKind) : KeepsCanonical s (s.endScan kind) := by
  unfold State.endScan
  refine .after (.same (State.startMeasuring_rests _ _).array) (.after (.same (State.handOver_stands _ _).array) fun wf => ?_)
  show Memory.wf (s.finishScan kind _).store.array = true
  rw [(s.finishScan_stands kind _).array]
  exact Memory.eraseBlocks_wf wf

theorem exec_touching_canonical {i : Instr} {s t : State} (touches : touchesArray i = true) (h : exec i s = .next t) :
    KeepsCanonical s t := by
  cases i <;> simp only [touchesArray, Bool.false_eq_true] at touches <;> injection h with h <;> subst h
  case recordWriteComplete => split; exacts [State.afterCompletion_canonical Store.commitHead_wf, .refl s]
  case padFillComplete => split; exacts [State.afterCompletion_canonical Memory.writeBytes_wf, .refl s]
  case eraseComplete => split; exacts [State.afterCompletion_canonical Memory.eraseBlock_wf, .refl s]
  case resetEraseComplete =>
    split
    · exact fun wf => (Memory.eraseBlock_wf wf : Memory.wf (Memory.eraseBlock s.store.array _) = true)
    · exact .refl s
  case epochWriteComplete =>
    split
    · exact .after (.same (State.holdupWrite_array _)) fun wf =>
        (Memory.writeBytes_wf wf : Memory.wf (Memory.writeBytes s.store.array _ _) = true)
    · exact .refl s
  case supplyGoodFall =>
    split
    · exact .refl s
    · split
      · exact .same s.warn_array
      · exact s.stopScan_canonical.trans (.same (State.warn_array _))
      all_goals exact .refl s
  case supplyCollapse =>
    split
    · exact s.tear_canonical.trans (.same rfl)
    · exact .refl s
  case powerUp => exact (s.stopScan_canonical.trans (State.tear_canonical _)).trans (.same rfl)
  case resetAssert =>
    split
    · exact .refl s
    · split
      · exact s.holdByReset_canonical
      · exact s.holdByReset_canonical
      all_goals exact .refl s
  case restartScanEnd =>
    split
    · split
      · exact .refl s
      · exact s.endScan_canonical _
    · exact .refl s

/-- Settles O22: a command that does not touch the array leaves it, and each of the others writes it in canonical form. -/
theorem arrayStaysCanonical : Obligations.ArrayStaysCanonical := by
  intro i s t wf h
  by_cases touches : touchesArray i = true
  · exact exec_touching_canonical touches h wf
  · rw [exec_array (by simpa using touches) h]
    exact wf

end Sys2Proof.Machine
end

section
/-! O25: an erase starts only where its rule lets it, and the pending operation stays the one the store asks for. -/

namespace Sys2Proof.Machine

open Sys2Proof

/-! ### Erases put in flight -/

/-- The operations that blank a block. -/
def InFlight.blanks : InFlight → Bool
  | .eraseBlock _ | .resetErase _ => true
  | .recordWrite _ _ | .padFill | .epochWrite _ _ => false

/-- From `s` to `t` no erase is put in flight. -/
def StartsNoErase (s t : State) : Prop :=
  ∀ op, op.blanks = true → t.store.inFlight = some op → s.store.inFlight = some op

theorem StartsNoErase.refl (s : State) : StartsNoErase s s := fun _ _ => id

theorem StartsNoErase.trans {s t u : State} (h : StartsNoErase s t) (k : StartsNoErase t u) : StartsNoErase s u :=
  fun op blanks flight => h op blanks (k op blanks flight)

/-- `StartsNoErase.trans` with its steps named from the last. -/
theorem StartsNoErase.after {s t u : State} (k : StartsNoErase t u) (h : StartsNoErase s t) : StartsNoErase s u := h.trans k

theorem StartsNoErase.same {s t : State} (h : t.store.inFlight = s.store.inFlight) : StartsNoErase s t :=
  fun _ _ flight => h ▸ flight

/-- With nothing in flight, no erase is. -/
theorem StartsNoErase.idle {s t : State} (h : t.store.inFlight = none) : StartsNoErase s t :=
  fun op _ flight => by rw [h] at flight; cases flight

/-- The operation in flight is one that blanks nothing. -/
theorem StartsNoErase.other {s t : State} {op : InFlight} (h : t.store.inFlight = some op) (keeps : op.blanks = false) :
    StartsNoErase s t := by
  intro op' blanks flight
  rw [h] at flight
  cases flight
  rw [keeps] at blanks
  cases blanks

theorem StartsNoErase.finished {s t : State} (h : StartsNoErase s t) : StartsNoErase s t.finish := h

/-- A record write put in flight is no erase. -/
theorem Store.startWrite_blanks {t : Store} {op : InFlight} (blanks : op.blanks = true)
    (flight : t.startWrite.inFlight = some op) : t.inFlight = some op := by
  unfold Store.startWrite at flight
  split at flight
  · exact flight
  · cases flight
    cases blanks

theorem State.holdupWrite_startsNoErase (s : State) : StartsNoErase s s.holdupWrite := by
  intro op blanks flight
  unfold State.holdupWrite at flight
  split at flight
  · exact Store.startWrite_blanks blanks flight
  · exact flight

theorem State.afterCompletion_startsNoErase {s t : State} (idle : t.store.inFlight = none) :
    StartsNoErase s t.afterCompletion := by
  refine .finished ((State.holdupWrite_startsNoErase _).after (.idle ?_))
  split
  · exact t.endDrain_stands.inFlight.trans idle
  · exact idle

theorem State.queueGapRecord_startsNoErase (s : State) : StartsNoErase s s.queueGapRecord := by
  exact .finished ((State.holdupWrite_startsNoErase _).after (.same s.queueGap_stands.inFlight))

theorem State.warn_startsNoErase (s : State) : StartsNoErase s s.warn := by
  unfold State.warn
  dsimp only
  refine .finished ((State.holdupWrite_startsNoErase _).after (.same ?_))
  rw [(State.deliver_rests _ _).inFlight]
  show (s.settleBurst s.now.elapsed).store.inFlight = _
  exact (s.settleBurst_rests _).inFlight

/-- Whatever was in flight is cut short (R117). -/
theorem State.tear_leaves_idle (s : State) : s.tear.store.inFlight = none := by
  unfold State.tear
  split
  · assumption
  · rfl

theorem State.holdByReset_idle (s : State) : s.holdByReset.store.inFlight = none := by
  unfold State.holdByReset
  dsimp only
  rw [State.finish_store, Store.settle_inFlight]
  exact s.stopScan.tear_leaves_idle

theorem Store.commitHead_idle (t : Store) (bytes : List Byte) (chain : Chain) : (t.commitHead bytes chain).inFlight = none := by
  unfold Store.commitHead
  split <;> rfl

/-- The store's pending operation is the erase of a block, and that block is to be erased now. -/
theorem State.judgeErase_flight {s : State} {block : Nat} {op : InFlight} (blanks : op.blanks = true)
    (flight : (s.judgeErase block).store.inFlight = some op) :
    s.store.inFlight = some op ∨ (s.releasable block = true ∧ op = .eraseBlock block) := by
  unfold State.judgeErase at flight
  split at flight
  · cases flight
    exact .inr ⟨‹_›, rfl⟩
  · refine .inl ?_
    split at flight
    · rwa [(State.endDrain_stands _).inFlight, s.takeOutQueue_stands.inFlight] at flight
    · exact flight

/-- R109, R114: an erase that the arbiter puts in flight was pending, and that of a block for a record is of one that is
releasable. -/
theorem State.startPending_flight {s : State} {op : InFlight} (blanks : op.blanks = true)
    (flight : s.startPending.store.inFlight = some op) :
    s.store.inFlight = some op ∨ (∃ block, s.releasable block = true ∧ op = .eraseBlock block)
      ∨ ∃ block, s.store.pendingOp = some (.resetErase block) ∧ op = .resetErase block := by
  unfold State.startPending at flight
  split at flight
  · exact .inl flight
  · have started := Store.startWrite_blanks blanks flight
    unfold Store.enterBlank at started
    split at started <;> exact .inl started
  · cases flight
    cases blanks
  · exact (State.judgeErase_flight blanks flight).imp id fun ⟨free, e⟩ => .inl ⟨_, free, e⟩
  · cases flight
    exact .inr (.inr ⟨_, ‹_›, rfl⟩)
  · split at flight
    · cases flight
      cases blanks
    all_goals exact .inl flight

theorem exec_arbiterGrant_flight {s t : State} {op : InFlight} (h : exec .arbiterGrant s = .next t) (blanks : op.blanks = true)
    (flight : t.store.inFlight = some op) (new : s.store.inFlight ≠ some op) :
    (∃ block, s.releasable block = true ∧ op = .eraseBlock block)
      ∨ ∃ block, s.monitor.state = .run ∧ s.store.pendingOp = some (.resetErase block) ∧ op = .resetErase block := by
  injection h with h
  subst h
  split at flight
  · unfold State.grant at flight
    split at flight
    · rename_i run
      split at flight
      · exact absurd ((s.serveRead_rests _).inFlight ▸ flight) new
      · rcases State.startPending_flight blanks flight with old | free | ⟨block, asked, e⟩
        · exact absurd old new
        · exact .inl free
        · exact .inr ⟨block, run, asked, e⟩
    · exact absurd (s.holdupWrite_startsNoErase op blanks flight) new
    all_goals exact absurd flight new
  · exact absurd flight new

theorem exec_supplyGoodFall_startsNoErase {s t : State} (scan : ¬ (s.monitor.state = .restarting ∧ s.monitor.restart.isSome = true))
    (h : exec .supplyGoodFall s = .next t) : StartsNoErase s t := by
  injection h with h
  subst h
  split
  · exact .refl s
  · split
    · exact s.warn_startsNoErase
    · have idle : s.stopScan = s := by unfold State.stopScan; rw [if_neg scan]
      rw [idle]
      exact s.warn_startsNoErase
    all_goals exact .same rfl

theorem State.endScan_idle (s : State) (kind : RestartKind) : (s.endScan kind).store.inFlight = none := by
  unfold State.endScan
  exact (State.startMeasuring_rests _ _).inFlight.trans
    ((State.handOver_stands _ _).inFlight.trans (State.finishScan_stands s kind _).inFlight)

theorem exec_touching_startsNoErase {i : Instr} {s t : State} (touches : touchesArray i = true)
    (scan : i = .supplyGoodFall → ¬ (s.monitor.state = .restarting ∧ s.monitor.restart.isSome = true))
    (h : exec i s = .next t) : StartsNoErase s t := by
  by_cases fall : i = .supplyGoodFall
  · subst fall
    exact exec_supplyGoodFall_startsNoErase (scan rfl) h
  cases i <;> simp only [touchesArray, Bool.false_eq_true] at touches <;> injection h with h <;> subst h
  case supplyGoodFall => exact absurd rfl fall
  case recordWriteComplete =>
    split
    · exact (State.afterCompletion_startsNoErase (s.store.commitHead_idle _ _))
    · exact .refl s
  case padFillComplete => split; exacts [State.afterCompletion_startsNoErase rfl, .refl s]
  case eraseComplete => split; exacts [State.afterCompletion_startsNoErase rfl, .refl s]
  case resetEraseComplete => split; exacts [.idle rfl, .refl s]
  case epochWriteComplete =>
    split
    · exact .finished ((State.holdupWrite_startsNoErase _).after (.idle rfl))
    · exact .refl s
  case supplyCollapse => split; exacts [.idle s.tear_leaves_idle, .refl s]
  case powerUp => exact .idle s.stopScan.tear_leaves_idle
  case resetAssert =>
    split
    · exact .refl s
    · split
      · exact .idle s.holdByReset_idle
      · exact .idle s.holdByReset_idle
      all_goals exact .refl s
  case restartScanEnd =>
    split
    · split
      · exact .refl s
      · exact .idle (s.endScan_idle _)
    · exact .refl s

/-- A command that puts an erase in flight is the arbiter's grant, or the warning that stops a restart's scan. -/
theorem exec_startsNoErase {i : Instr} {s t : State} (grant : i ≠ .arbiterGrant)
    (scan : i = .supplyGoodFall → ¬ (s.monitor.state = .restarting ∧ s.monitor.restart.isSome = true))
    (h : exec i s = .next t) : StartsNoErase s t := by
  by_cases touches : touchesArray i = true
  · exact exec_touching_startsNoErase touches scan h
  by_cases gap : i = .heldBackGapQueue
  · subst gap
    injection h with h
    subst h
    split
    exacts [s.queueGapRecord_startsNoErase, .refl s]
  · have starts : startsOperation i = false := by cases i <;> simp_all [startsOperation]
    exact .same (exec_rests (by simpa using touches) starts h).inFlight

/-- An abandoned scan leaves no erase of an epoch reset in flight, only that of a damaged block (R118; log 9). -/
theorem State.stopScan_resetErase {s : State} {block : Nat} (flight : s.stopScan.store.inFlight = some (.resetErase block)) :
    s.store.inFlight = some (.resetErase block) := by
  unfold State.stopScan at flight
  split at flight
  · dsimp only at flight
    split at flight
    · rw [Option.map_eq_some_iff] at flight
      obtain ⟨_, _, other⟩ := flight
      cases other
    · cases flight
  · exact flight

/-- The erase of an epoch reset is put in flight by the arbiter's grant alone (R114). -/
theorem exec_resetErase {i : Instr} {s t : State} {block : Nat} (grant : i ≠ .arbiterGrant) (h : exec i s = .next t)
    (flight : t.store.inFlight = some (.resetErase block)) : s.store.inFlight = some (.resetErase block) := by
  by_cases fall : i = .supplyGoodFall
  · subst fall
    injection h with h
    subst h
    split at flight
    · exact flight
    · split at flight
      · exact s.warn_startsNoErase _ rfl flight
      · exact State.stopScan_resetErase (State.warn_startsNoErase _ _ rfl flight)
      all_goals exact flight
  · exact exec_startsNoErase grant (fun e => absurd e fall) h _ rfl flight

/-- R109: the erase of a block for a record starts on a block that is releasable, or is left by an abandoned scan. -/
theorem exec_eraseBlock {i : Instr} {s t : State} {block : Nat} (h : exec i s = .next t)
    (flight : t.store.inFlight = some (.eraseBlock block)) (new : s.store.inFlight ≠ some (.eraseBlock block)) :
    s.releasable block = true ∨ (s.monitor.state = .restarting ∧ s.monitor.restart.isSome = true) := by
  by_cases grant : i = .arbiterGrant
  · subst grant
    rcases exec_arbiterGrant_flight h rfl flight new with ⟨_, free, e⟩ | ⟨_, _, _, e⟩
    · cases e
      exact .inl free
    · cases e
  · by_contra neither
    exact new (exec_startsNoErase grant (fun _ scan => neither (.inr scan)) h _ rfl flight)

/-! ### The pending operation (R102) -/

theorem State.grant_asks (s : State) (asks : s.store.asksDue) : s.grant.store.asksDue := by
  unfold State.grant
  split
  · split
    · exact (s.serveRead_rests _).asks asks
    · exact State.finish_asksDue _
  · exact State.finish_asksDue _
  all_goals exact asks

/-- Each operation that touches the array brings the pending operation up to date at its end. -/
theorem exec_touching_asks {i : Instr} {s t : State} (touches : touchesArray i = true) (asks : s.store.asksDue)
    (h : exec i s = .next t) : t.store.asksDue := by
  cases i <;> simp only [touchesArray, Bool.false_eq_true] at touches <;> injection h with h <;> subst h
  case supplyGoodFall =>
    split
    · exact asks
    · split
      · exact State.finish_asksDue _
      · exact State.finish_asksDue _
      all_goals exact asks
  case powerUp => exact State.finish_asksDue _
  case resetAssert =>
    split
    · exact asks
    · split
      · exact State.finish_asksDue _
      · exact State.finish_asksDue _
      all_goals exact asks
  case restartScanEnd =>
    split
    · split
      · exact asks
      · exact State.finish_asksDue _
    · exact asks
  all_goals
    split
    · exact State.finish_asksDue _
    · exact asks

/-- A pending operation that is the one asked for stays so at every command. -/
theorem exec_asks {i : Instr} {s t : State} (asks : s.store.asksDue) (h : exec i s = .next t) : t.store.asksDue := by
  by_cases touches : touchesArray i = true
  · exact exec_touching_asks touches asks h
  by_cases starts : startsOperation i = true
  · cases i <;> simp only [startsOperation, Bool.false_eq_true] at starts <;> injection h with h <;> subst h
    case heldBackGapQueue => split; exacts [State.finish_asksDue _, asks]
    case arbiterGrant => split; exacts [s.grant_asks asks, asks]
  · exact (exec_rests (by simpa using touches) (by simpa using starts) h).asks asks

/-- A block is USED exactly when the block table lists it. -/
theorem Store.used_isSome (t : Store) (block : Nat) : (t.used block).isSome = t.blocks.any fun u => u.block == block := by
  rw [Bool.eq_iff_iff]
  simp [Store.used]

/-- R106: the head fits where its slots end within the block. -/
theorem Store.headFits_cons {t : Store} {e : Entry} {rest : List Entry} (queue : t.queue = e :: rest) :
    t.headFits = decide (t.wpSlot + e.record.slots ≤ 128) := by
  have slots := e.record.slots_pos
  have left : t.slotsLeft = 128 - t.wpSlot := rfl
  simp only [Store.headFits, queue, left, decide_eq_decide]
  omega

/-- R106, R109: what the queue head asks for. -/
theorem Store.headOp_cons {t : Store} {e : Entry} {rest : List Entry} (queue : t.queue = e :: rest) :
    t.headOp = some (if t.wpSlot + e.record.slots ≤ 128 then .writeHead
      else if t.wpSlot < 128 then .padFill
      else if t.blocks.any (fun u => u.block == (t.wpBlock + 1) % 1024) then .eraseBlock ((t.wpBlock + 1) % 1024)
      else .writeHead) := by
  have left : (0 < t.slotsLeft) = (t.wpSlot < 128) := by
    unfold Store.slotsLeft blockSlots
    exact propext (by omega)
  have ahead : t.blockAhead = (t.wpBlock + 1) % 1024 := rfl
  unfold Store.headOp
  simp only [Store.headFits_cons queue, queue, left, ahead, Store.used_isSome, List.isEmpty_cons, Bool.false_eq_true, if_false,
    decide_eq_true_eq]
  split
  · rfl
  · split
    · rfl
    · split <;> rfl

theorem Store.headOp_nil {t : Store} (queue : t.queue = []) : t.headOp = none := by simp [Store.headOp, queue]

theorem Store.dueOp_unscanned {t : Store} (h : t.scanned = false) : t.dueOp = none := by simp [Store.dueOp, h]

theorem Store.dueOp_busy {t : Store} (h : t.inFlight.isSome = true) : t.dueOp = none := by simp [Store.dueOp, h]

/-- R102: the store does records: NORMAL, or in the drain of a reset. -/
def Store.works (t : Store) : Prop := t.state = .normal ∨ (t.state = .resetting ∧ t.resetPhase = some .drain)

section
variable {t : Store} (scanned : t.scanned = true) (idle : t.inFlight = none)
include scanned idle

theorem Store.dueOp_works (h : t.works) : t.dueOp = t.headOp := by
  rcases h with h | ⟨h, k⟩
  · simp [Store.dueOp, scanned, idle, h]
  · simp [Store.dueOp, scanned, idle, h, k]

theorem Store.dueOp_erasing {note : ResetNote} {next : Nat} (h : t.state = .resetting)
    (k : t.resetPhase = some (.erasing note next)) : t.dueOp = some (.resetErase next) := by
  simp [Store.dueOp, scanned, idle, h, k]

theorem Store.dueOp_epochWrite {r : EpochRecord} (h : t.state = .resetting) (k : t.resetPhase = some (.epochWrite r)) :
    t.dueOp = some .epochWrite := by
  simp [Store.dueOp, scanned, idle, h, k]

end

/-- Nothing is asked for in HELD, and none while the reset note is written. -/
theorem Store.dueOp_waits {t : Store} (h : t.state = .held ∨ (t.state = .resetting ∧ t.resetPhase = some .noteWrite)) :
    t.dueOp = none := by
  unfold Store.dueOp
  split
  · rfl
  · rcases h with h | ⟨h, k⟩
    · simp [h]
    · simp [h, k]

theorem Store.dueOp_empty {t : Store} (h : t.works) (queue : t.queue = []) : t.dueOp = none := by
  by_cases ready : t.scanned = true ∧ t.inFlight = none
  · rw [Store.dueOp_works ready.1 ready.2 h, Store.headOp_nil queue]
  · unfold Store.dueOp
    rw [if_pos]
    cases scanned : t.scanned <;> cases flight : t.inFlight <;> simp_all

/-! ### Release (R109) -/

/-- R109: the two ways in which a record is released. -/
theorem State.released_iff (s : State) (number clockEnd : Nat) : s.released number clockEnd = true ↔
    (number ≤ s.operator.mark ∧ number ≤ s.consumer.mark)
      ∨ (s.monitor.quality = .set
        ∧ (clockEnd : Int) < (s.clock : Int) - (s.bank.inForce.retentionDays : Int) * 86400000) := by
  simp [State.released]

/-- A candidate's records are those of its block. -/
theorem Memory.blockRecords_of_candidate {m : Memory} {block : Nat} {c : Candidate}
    (h : Memory.candidate m block = some c) : Memory.blockRecords m block = c.records := by
  unfold Memory.candidate at h
  unfold Memory.blockRecords
  cases walk : Memory.walkBlock m block with
  | none =>
    rw [walk] at h
    cases h
  | some found =>
    rw [walk] at h
    cases h
    rfl

/-- A block that is no candidate has no record. -/
theorem Memory.blockRecords_of_none {m : Memory} {block : Nat} (h : Memory.candidate m block = none) :
    Memory.blockRecords m block = [] := by
  unfold Memory.candidate at h
  unfold Memory.blockRecords
  cases walk : Memory.walkBlock m block with
  | none => rfl
  | some found =>
    rw [walk] at h
    cases h

theorem State.releasable_iff (s : State) (block : Nat) : s.releasable block = true ↔
    (∀ u ∈ s.store.blocks, u.block ≠ block)
      ∨ ∀ c, Memory.candidate s.store.array block = some c → ∀ r ∈ c.records, s.released r.number r.clockEnd = true := by
  have blank : (s.store.used block).isNone = true ↔ ∀ u ∈ s.store.blocks, u.block ≠ block := by simp [Store.used]
  unfold State.releasable
  rw [Bool.or_eq_true, blank, List.all_eq_true]
  refine or_congr Iff.rfl ?_
  cases h : Memory.candidate s.store.array block with
  | none => simp [Memory.blockRecords_of_none h]
  | some c => simp [Memory.blockRecords_of_candidate h]

/-- Settles O25: an erase starts where the arbiter or an abandoned scan lets it (`exec_eraseBlock`, `exec_resetErase`), a
command that does not touch the array leaves it, and every command keeps the pending operation due. -/
theorem roomIsMadeOnlyOnReleasedBlocks : Obligations.RoomIsMadeOnlyOnReleasedBlocks := by
  refine ⟨fun i s t h => ⟨fun b flight new => exec_eraseBlock h flight new, fun b flight new => ?_, fun touches a => ?_,
    fun asks => exec_asks asks h⟩, fun s b => ?_, fun t => ⟨fun h => ?_, fun scanned idle => ⟨fun works e rest queue => ?_,
    fun resetting => ⟨fun note next phase => ?_, fun r phase => ?_⟩⟩⟩⟩
  · by_cases grant : i = .arbiterGrant
    · subst grant
      rcases exec_arbiterGrant_flight h rfl flight new with ⟨_, _, e⟩ | ⟨_, run, asked, e⟩
      · cases e
      · cases e
        exact ⟨rfl, run, asked⟩
    · exact absurd (exec_resetErase grant h flight) new
  · rw [exec_array touches h]
  · simp only [State.releasable_iff, State.released_iff]
  · rcases h with h | h | h | ⟨works, queue⟩ | h
    · exact Store.dueOp_unscanned h
    · exact Store.dueOp_busy h
    · exact Store.dueOp_waits (.inl h)
    · exact Store.dueOp_empty works queue
    · exact Store.dueOp_waits (.inr h)
  · rw [Store.dueOp_works scanned idle works, Store.headOp_cons queue]
  · exact Store.dueOp_erasing scanned idle resetting phase
  · exact Store.dueOp_epochWrite scanned idle resetting phase

end Sys2Proof.Machine
end

section
/-! O57: a port's master cannot change, and cannot see, what belongs to the other port. An operation is on one side (`OwnSide`)
when it leaves the other port but for its line, and the other slot, and acts the same whatever the other port holds beside its
collection mark. -/

namespace Sys2Proof.Machine

open Sys2Proof

/-! ### Operations on one side -/

/-- What is read of the part is the same whatever the other port of `p` holds beside its collection mark. -/
def Blind {α : Type} (p : Port) (read : State → α) : Prop :=
  ∀ (s : State) (x : PortState), x.mark = (s.port p.other).mark → read (s.setPort p.other x) = read s

/-- The operation `f` leaves the other port of `p` but for its line, and the other slot; and with the other port replaced by one
with the same mark it does the same to all but the other port, and keeps the marks the same. -/
structure OwnSide (p : Port) (f : State → State) : Prop where
  port : ∀ s, (f s).port p.other = { s.port p.other with attention := ((f s).port p.other).attention }
  slot : ∀ s, (f s).bank.slot p.other = s.bank.slot p.other
  unseen : ∀ (s : State) (x : PortState), x.mark = (s.port p.other).mark →
    ∃ y : PortState, y.mark = ((f s).port p.other).mark ∧ f (s.setPort p.other x) = (f s).setPort p.other y

theorem OwnSide.mark {p : Port} {f : State → State} (h : OwnSide p f) (s : State) :
    ((f s).port p.other).mark = (s.port p.other).mark := by rw [h.port s]

theorem OwnSide.id (p : Port) : OwnSide p fun s => s := ⟨fun _ => rfl, fun _ => rfl, fun _ x same => ⟨x, same, rfl⟩⟩

/-- One operation after another. -/
theorem OwnSide.comp {p : Port} {f g : State → State} (hf : OwnSide p f) (hg : OwnSide p g) : OwnSide p fun s => g (f s) := by
  refine ⟨fun s => ?_, fun s => (hg.slot _).trans (hf.slot s), fun s x same => ?_⟩
  · rw [hg.port, hf.port]
  · obtain ⟨y, marked, e⟩ := hf.unseen s x same
    obtain ⟨z, marked', e'⟩ := hg.unseen (f s) y marked
    exact ⟨z, marked', by rw [e, e']⟩

/-- `OwnSide.comp` with its steps named from the last. -/
theorem OwnSide.after {p : Port} {f g : State → State} (hg : OwnSide p g) (hf : OwnSide p f) : OwnSide p fun s => g (f s) :=
  hf.comp hg

/-- A choice between two operations by what is blind to the other port. -/
theorem OwnSide.ite {p : Port} {f g : State → State} {c : State → Prop} [∀ s, Decidable (c s)] (blind : Blind p c)
    (hf : OwnSide p f) (hg : OwnSide p g) : OwnSide p fun s => if c s then f s else g s := by
  refine ⟨fun s => ?_, fun s => ?_, fun s x same => ?_⟩
  · by_cases h : c s
    · simp only [if_pos h]
      exact hf.port s
    · simp only [if_neg h]
      exact hg.port s
  · by_cases h : c s
    · simp only [if_pos h]
      exact hf.slot s
    · simp only [if_neg h]
      exact hg.slot s
  · have seen := blind s x same
    by_cases h : c s
    · simp only [seen, if_pos h]
      exact hf.unseen s x same
    · simp only [seen, if_neg h]
      exact hg.unseen s x same

/-- An operation that takes an argument read of the part, where the reading is blind to the other port. -/
theorem OwnSide.reading {α : Type} {p : Port} {read : State → α} {f : α → State → State} (blind : Blind p read)
    (h : ∀ a, OwnSide p (f a)) : OwnSide p fun s => f (read s) s := by
  refine ⟨fun s => (h _).port s, fun s => (h _).slot s, fun s x same => ?_⟩
  rw [blind s x same]
  exact (h _).unseen s x same

/-! ### Readings -/

theorem Blind.const {α : Type} (p : Port) (a : α) : Blind p fun _ => a := fun _ _ _ => rfl

theorem Blind.map {α β : Type} {p : Port} {read : State → α} (h : Blind p read) (g : α → β) : Blind p fun s => g (read s) :=
  fun s x same => congrArg g (h s x same)

theorem Blind.pair {α β : Type} {p : Port} {f : State → α} {g : State → β} (hf : Blind p f) (hg : Blind p g) :
    Blind p fun s => (f s, g s) := fun s x same => Prod.ext (hf s x same) (hg s x same)

/-- What a port's own master sees is the part without the other port, but for its mark. -/
theorem State.setPort_own (s : State) (p : Port) (x : PortState) : (s.setPort p.other x).port p = s.port p := by
  cases p <;> rfl

theorem Blind.port (p : Port) : Blind p fun s => s.port p := fun s x _ => s.setPort_own p x

theorem Blind.store (p : Port) : Blind p fun s => s.store := fun s x _ => s.setPort_store _ x

theorem Blind.bank (p : Port) : Blind p fun s => s.bank := fun s x _ => s.setPort_bank _ x

theorem Blind.monitor (p : Port) : Blind p fun s => s.monitor := fun s x _ => s.setPort_monitor _ x

/-- The READ LIVE reply reads no port (R164). -/
theorem Blind.live (p : Port) : Blind p fun s => (s.liveFlags, s.livePayload) := fun s x _ => by cases p <;> rfl

/-- STATUS shows of the other port its mark alone (R175). -/
theorem Blind.statusPayload (p : Port) : Blind p fun s => s.statusPayload p := by
  intro s x same
  have other : ((s.setPort p.other x).port p.other).mark = (s.port p.other).mark := by rw [State.setPort_port, same]
  simp only [State.statusPayload, State.clockGroup]
  rw [other, State.setPort_own, State.setPort_clock]
  simp only [State.setPort_store, State.setPort_monitor, State.setPort_bank, State.setPort_tracker]

theorem Blind.timePayload (p : Port) : Blind p fun s => s.timePayload := fun s x _ => by cases p <;> rfl

/-- R109: a record is released by both marks, or by its age: of the other port the mark alone is read. -/
theorem Blind.released (p : Port) (number clockEnd : Nat) : Blind p fun s => s.released number clockEnd := by
  intro s x same
  simp only [State.released]
  rw [State.setPort_clock, State.setPort_monitor, State.setPort_bank]
  cases p
  · have same : x.mark = s.consumer.mark := same
    simp only [Port.other, State.setPort, same]
    rfl
  · have same : x.mark = s.operator.mark := same
    simp only [Port.other, State.setPort, same]
    rfl

theorem Blind.releasable (p : Port) (block : Nat) : Blind p fun s => s.releasable block := by
  intro s x same
  simp only [State.releasable]
  simp only [State.setPort_store, Blind.released p _ _ s x same]

/-! ### Operations on a port -/

/-- A change to the port itself, by what is read of the part. -/
theorem OwnSide.onPort {α : Type} {p : Port} {read : State → α} (blind : Blind p read) (g : α → PortState → PortState) :
    OwnSide p fun s => s.onPort p (g (read s)) := by
  refine .reading (f := fun a s => s.onPort p (g a)) blind fun a => ⟨fun s => ?_, fun s => ?_, fun s x same => ⟨x, ?_, ?_⟩⟩
  · rw [State.onPort_port_other]
  · rw [State.onPort_bank]
  · rw [same, State.onPort_port_other]
  · cases p <;> rfl

/-- A reply completed on the port, by what is read of the part (R158). -/
theorem OwnSide.complete {p : Port} {code tag : Byte} {status : State → Status} {own : State → Nat}
    {payload : State → List Byte} (hs : Blind p status) (ho : Blind p own) (hp : Blind p payload) :
    OwnSide p fun s => s.complete p code tag (status s) (own s) (payload s) :=
  .onPort (hs.pair (ho.pair hp)) fun a t =>
    { t with
      inProcess := none, reply := replyFrame p code tag a.1 (replyFlags t.overrun t.abandoned a.2.1) a.2.2,
      replyState := .ready, overrun := false, abandoned := false }

theorem OwnSide.prepare {p : Port} {request : State → InProcess} (blind : Blind p request) :
    OwnSide p fun s => s.prepare p (request s) :=
  .onPort blind fun r t => { t with inProcess := some r, replyState := .preparing }

/-- What follows a change judges the other line afresh, and nothing else of the other port. -/
theorem OwnSide.finish (p : Port) : OwnSide p State.finish := by
  refine ⟨fun s => s.finish_port _, fun s => rfl, fun s x same =>
    ⟨(s.setPort p.other x).finish.port p.other, ?_, ?_⟩⟩
  · rw [show (s.finish.port p.other).mark = (s.port p.other).mark by rw [State.finish_port], ← same, State.finish_port,
      State.setPort_port]
  · cases p <;> rfl

/-- R110: the blocked block is judged by the marks alone. -/
theorem OwnSide.judgeHeld (p : Port) : OwnSide p State.judgeHeld := by
  refine .ite (fun s x same => ?_) ⟨fun s => by cases p <;> rfl, fun _ => rfl, fun s x same => ⟨x, ?_, by cases p <;> rfl⟩⟩ (.id p)
  · simp only [State.setPort_store, Blind.releasable p _ s x same]
  · cases p <;> exact same

theorem OwnSide.setSlot (p : Port) (slot : Option Proposal) : OwnSide p fun s => { s with bank := s.bank.setSlot p slot } := by
  refine ⟨fun s => by cases p <;> rfl, fun s => s.bank.setSlot_slot_other p slot, fun s x same => ⟨x, ?_, by cases p <;> rfl⟩⟩
  cases p <;> exact same

/-- R95: an accepted TIME SET reads of the other port its mark alone. -/
theorem OwnSide.initialSet (p : Port) (value : Int) : OwnSide p fun s => s.initialSet p value := by
  refine ⟨fun s => ?_, fun s => ?_, fun s x same => ⟨x, ?_, State.setPort_initialSet same p value⟩⟩
  · rw [State.initialSet_port]
  · exact congrArg (fun t => t.bank.slot p.other) (s.initialSet_retimed p value)
  · rw [State.initialSet_port, same]

/-- R94: an accepted TIME STEP reads of the other port its mark alone. -/
theorem OwnSide.smallStep (p : Port) (value : Int) : OwnSide p fun s => s.smallStep p value := by
  refine ⟨fun s => ?_, fun s => ?_, fun s x same => ⟨x, ?_, State.setPort_smallStep same p value⟩⟩
  · rw [State.smallStep_port]
  · exact congrArg (fun t => t.bank.slot p.other) (s.smallStep_retimed p value)
  · rw [State.smallStep_port, same]

/-! ### Requests -/

section
variable (p : Port) (tag : Byte)

theorem OwnSide.serveCollect (number : BitVec 32) : OwnSide p fun s => s.serveCollect p tag number := by
  have low : Blind p fun s => number.toNat < (s.port p).mark := (Blind.port p).map fun t => number.toNat < t.mark
  have shown : Blind p fun s => s.collectPayload p :=
    ((Blind.port p).pair (.store p)).map fun a => leBytes 4 a.1.mark ++ leBytes 2 a.2.epoch
  refine .ite low (.complete (.const p _) (.const p _) shown) ?_
  have marked : OwnSide p fun s => s.setMark p number.toNat :=
    .onPort (.store p) fun a t => { t with mark := min number.toNat a.newest }
  have answered : ∀ own, OwnSide p fun s => s.complete p 3 tag .ok own (s.collectPayload p) :=
    fun own => .complete (.const p _) (.const p own) shown
  have clamped : Blind p fun s => if s.store.newest < number.toNat then flagClamped else 0 :=
    (Blind.store p).map fun a => if a.newest < number.toNat then flagClamped else 0
  exact .reading clamped fun own => ((marked.comp (answered own)).comp (.judgeHeld p)).comp (.finish p)

theorem OwnSide.serveReadSettings (first last : Byte) : OwnSide p fun s => s.serveReadSettings p tag first last :=
  .ite (.const p _) (.complete (.const p _) (.const p _) ((Blind.bank p).map fun b => b.settingsPayload first.toNat last.toNat))
    (.complete (.const p _) (.const p _) (.const p _))

theorem OwnSide.slotted (code : Byte) (slot : Option Proposal) : OwnSide p fun s =>
    ({ s with bank := s.bank.setSlot p slot }.complete p code tag .ok 0 [(s.bank.setSlot p slot).slotsByte]).finish :=
  ((OwnSide.setSlot p slot).comp
    (.complete (.const p _) (.const p _) ((Blind.bank p).map fun b => [b.slotsByte]))).comp (.finish p)

theorem OwnSide.serveLodge (pairs : List RawPair) : OwnSide p fun s => s.serveLodge p tag pairs := by
  have judged : Blind p fun s => lodgeStatus s.bank.inForce s.bank.currentEpoch (pairs.map RawPair.change) :=
    (Blind.bank p).map fun b => lodgeStatus b.inForce b.currentEpoch (pairs.map RawPair.change)
  refine .ite (judged.map fun status => status = .ok) ?_ (.complete judged (.const p _) (.const p _))
  exact .reading (.monitor p) fun m => .slotted p tag 7 (some (proposalAt m.elapsed (pairs.map RawPair.change)))

theorem OwnSide.serveTimeSet (value : BitVec 64) : OwnSide p fun s => s.serveTimeSet p tag value := by
  have judged : Blind p fun s => timeSetStatus s.monitor.quality value.toInt :=
    (Blind.monitor p).map fun m => timeSetStatus m.quality value.toInt
  exact .reading judged fun status => (OwnSide.ite (c := fun _ => status = .ok) (.const p _) (.initialSet p _) (.id p)).comp
    (.complete (.const p status) (.const p _) (.timePayload p))

theorem OwnSide.serveTimeStep (value : BitVec 64) : OwnSide p fun s => s.serveTimeStep p tag value := by
  have judged : Blind p fun s => s.timeStepStatus value.toInt := fun s x _ => by
    simp only [State.timeStepStatus, State.setPort_monitor, State.setPort_clock]
  exact .reading judged fun status => (OwnSide.ite (c := fun _ => status = .ok) (.const p _) (.smallStep p _) (.id p)).comp
    (.complete (.const p status) (.const p _) (.timePayload p))

theorem OwnSide.serveTimeForm (form : Byte) (value : BitVec 64) : OwnSide p fun s => s.serveTimeForm p tag form value := by
  unfold State.serveTimeForm
  split
  · exact .serveTimeSet p tag value
  · exact .serveTimeStep p tag value
  · exact .complete (.const p _) (.const p _) (.timePayload p)

theorem OwnSide.serveSetNotify (value : BitVec 16) : OwnSide p fun s => s.serveSetNotify p tag value :=
  ((OwnSide.onPort (.const p ()) fun _ t => { t with notify := notifyLevel value.toNat }).comp
    (.complete (.const p _) (.const p _) (.const p _))).comp (.finish p)

theorem OwnSide.serveFlush : OwnSide p fun s => s.serveFlush p tag :=
  .ite ((Blind.store p).map fun a => a.queue.isEmpty ∨ a.state = .held)
    (.complete (.const p _) ((Blind.store p).map Store.heldFlag) ((Blind.store p).map fun a => a.flushPayload a.newestQueued))
    (.prepare ((Blind.store p).map fun a => InProcess.flush tag a.newestQueued))

/-- Whatever request the port's master makes, it is served on its own side. -/
theorem OwnSide.serve {i : Instr} (sent : senderOf i = some p) : OwnSide p fun s => s.serve i := by
  cases i <;> simp only [senderOf, reduceCtorEq, Option.some.injEq] at sent <;> (try subst sent) <;> simp only [State.serve]
  case readPeriod => exact .id _
  case invalidRequestFrame => exact .id _
  case selectPeriodStart => exact .id _
  case status q g => exact .complete (.const q _) (.const q _) (.statusPayload q)
  case readRecords q g f c => exact .prepare (.const q _)
  case collect q g n => exact .serveCollect q g n
  case readLive q g => exact .complete (.const q _) ((Blind.live q).map Prod.fst) ((Blind.live q).map Prod.snd)
  case readMatrix q g => exact .complete (.const q _) (.const q _) fun s x _ => by simp only [State.setPort_matrix]
  case readSettings q g f l => exact .serveReadSettings q g f l
  case lodge q g pairs => exact .serveLodge q g pairs
  case withdraw q g => exact .slotted q g 8 none
  case timeSet q g v => exact .serveTimeSet q g v
  case timeStep q g v => exact .serveTimeStep q g v
  case timeBadForm q g f v => exact .serveTimeForm q g f v
  case setNotify q g v => exact .serveSetNotify q g v
  case flush q g => exact .serveFlush q g

theorem OwnSide.refuseFrame (code : Byte) (status : Status) : OwnSide p fun s => s.refuseFrame p code tag status :=
  (OwnSide.onPort (.const p ()) fun _ t => t.countFailure status).comp (.complete (.const p _) (.const p _) (.const p _))

theorem OwnSide.serveFrame (bytes : List Byte) : OwnSide p fun s => s.serveFrame p bytes := by
  unfold State.serveFrame
  split
  · exact .refuseFrame p _ _ _
  · split
    · exact .serve p (requestOf_sender ‹_›)
    · exact .id p

/-! ### Select periods -/

theorem Blind.running : Blind p fun s => s.running := (Blind.monitor p).map fun m => m.state == .run

theorem Blind.periodNow : Blind p fun s => s.periodNow p := fun s x _ => by cases p <;> rfl

theorem Blind.takesPeriod : Blind p fun s => s.takesPeriod p := fun s x _ => by cases p <;> rfl

theorem Blind.bytesOut (n : Nat) : Blind p fun s => s.bytesOut p n := fun s x _ => by cases p <;> rfl

theorem OwnSide.endPeriod (n : Nat) (buffer : List Byte) : OwnSide p fun s => s.endPeriod p n buffer :=
  .onPort ((Blind.bytesOut p n).pair (.takesPeriod p)) fun a t =>
    { t with period := none, clockedOut := a.1, requestBuffer := if a.2 then buffer.take 64 else [] }

theorem OwnSide.beginPeriod : OwnSide p fun s => s.beginPeriod p :=
  .onPort (read := fun s => s.periodAtStart p) (fun s x _ => by cases p <;> rfl) fun d t =>
    { t with period := some d, requestBuffer := [] }

theorem OwnSide.readEnds (n : Nat) : OwnSide p fun s => s.readEnds p n := by
  have read : Blind p fun s => s.takesPeriod p && (s.periodNow p).readsIn n && (s.port p).replyState == .ready :=
    fun s x _ => by cases p <;> rfl
  refine .reading (f := fun b s => if b then (s.endPeriod p n (List.replicate (min n 2) 0)).onPort p fun t =>
    { t with reply := [], replyState := .none } else s.endPeriod p n (List.replicate (min n 2) 0)) read fun b => ?_
  cases b
  · exact .endPeriod p n _
  · exact (OwnSide.endPeriod p n _).comp (.onPort (.const p ()) fun _ t => { t with reply := [], replyState := .none })

theorem OwnSide.request {act : State → State} (frame : List Byte) (h : OwnSide p act) : OwnSide p fun s => s.request p frame act :=
  .ite ((Blind.takesPeriod p).map fun b => b = true)
    (((OwnSide.endPeriod p frame.length frame).comp (.onPort (.const p ()) fun _ t => t.taken)).comp h)
    (.endPeriod p frame.length frame)

theorem OwnSide.periodEnds (bytes : List Byte) : OwnSide p fun s => s.periodEnds p bytes := by
  unfold State.periodEnds
  split
  · exact .endPeriod p _ _
  · split
    · exact .readEnds p _
    · exact .request p bytes (.serveFrame p bytes)

end

/-- What a command of a port's master does, as an operation on its own side. -/
theorem exec_ownSide {i : Instr} {p : Port} (sent : senderOf i = some p) :
    ∃ f, OwnSide p f ∧ ∀ s, exec i s = .next (f s) := by
  have served : ∀ (j : Instr) frame, senderOf j = some p → (∀ s, exec j s = .next (s.request p frame fun u => u.serve j)) →
      ∃ f, OwnSide p f ∧ ∀ s, exec j s = .next (f s) := fun j frame h e => ⟨_, .request p frame (.serve p h), e⟩
  cases i <;> simp only [senderOf, reduceCtorEq, Option.some.injEq] at sent <;> subst sent
  case readPeriod n => exact ⟨_, .readEnds _ n, fun _ => rfl⟩
  case invalidRequestFrame bytes => exact ⟨_, .periodEnds _ bytes, fun _ => rfl⟩
  case selectPeriodStart => exact ⟨_, .beginPeriod _, fun _ => rfl⟩
  case lodge q g pairs =>
    refine ⟨_, .request _ (lodgeFrame _ g pairs) (act := fun t =>
      if pairs.length ≤ framePairs then t.serveLodge _ g pairs else t.refuseFrame _ 7 g .length) ?_, fun _ => rfl⟩
    exact .ite (.const _ _) (.serveLodge _ g pairs) (.refuseFrame _ g 7 .length)
  all_goals exact served _ _ rfl fun _ => rfl

/-- Settles O57: a command of a port's master is an operation on its own side, and touches no byte of the array. -/
theorem portsStayApart : Obligations.PortsStayApart := by
  intro p i s t sent h
  obtain ⟨f, own, e⟩ := exec_ownSide sent
  obtain rfl : f s = t := by rw [e] at h; injection h
  refine ⟨own.port s, own.slot s, fun a => by rw [(exec_sender_rests sent h).array], fun x u same hu => ?_⟩
  obtain ⟨y, -, twin⟩ := own.unseen s x same
  obtain rfl : (f s).setPort p.other y = u := by rw [e, twin] at hu; injection hu
  exact ⟨State.setPort_own _ _ _, State.setPort_bank _ _ _, State.setPort_store _ _ _, State.setPort_monitor _ _ _⟩

end Sys2Proof.Machine
end

section
/-! O41: from the first power the part comes to RUN. The commands are run one by one: the power-up changes nothing, the rise
starts the wait, and the two commands that end it run the COLD restart on the blank array. -/

namespace Sys2Proof.Machine

open Sys2Proof

/-- A run whose front command answers next goes on from the state it leaves. -/
theorem run_pending_cons {s t : State} {c : Instr} {queue : List Instr} (k : Nat)
    (h : exec c (s.withPending queue) = .next t) :
    Host.Core.run Sys2Proof.core (k + 1) (s.withPending (c :: queue)) = Host.Core.run Sys2Proof.core k t := by
  have front : Sys2Proof.core.step (s.withPending (c :: queue)) = .next t := h
  simp only [Host.Core.run]
  rw [front]

/-- The part at its first power with supply-good high, `n` ms into the steadiness wait. -/
def waiting (n : Nat) : State :=
  { State.reset with monitor := { Monitor.factory with supplyGood := true, waitEnd := some 50, elapsed := n } }

theorem exec_powerUp_reset (queue : List Instr) :
    exec .powerUp (State.reset.withPending queue) = .next (State.reset.withPending queue) := rfl

theorem exec_supplyGoodRise_reset (queue : List Instr) :
    exec .supplyGoodRise (State.reset.withPending queue) = .next ((waiting 0).withPending queue) := rfl

/-- R123: a tick of the wait. -/
theorem exec_elapsedTick_waiting {n : Nat} (below : n < max48) (queue : List Instr) :
    exec .elapsedTick ((waiting n).withPending queue) = .next ((waiting (n + 1)).withPending queue) := by
  have counted : ((waiting n).withPending queue).countElapsed = (waiting (n + 1)).withPending queue := if_pos below
  have kept : ((waiting (n + 1)).withPending queue).keepClock = (waiting (n + 1)).withPending queue := by
    unfold State.keepClock
    refine if_pos ?_
    show (0 : Int) ≤ ((n + 1 : Nat) : Int) + 0 ∧ ((n + 1 : Nat) : Int) + 0 ≤ (max48 : Nat)
    omega
  show Host.Outcome.next ((waiting n).withPending queue).countElapsed.keepClock = _
  rw [counted, kept]

/-- The ticks of the wait, one after another. -/
theorem run_ticks (k : Nat) (rest : List Instr) (m n : Nat) (below : n + m ≤ max48) :
    Host.Core.run Sys2Proof.core (m + k) ((waiting n).withPending (List.replicate m .elapsedTick ++ rest))
      = Host.Core.run Sys2Proof.core k ((waiting (n + m)).withPending rest) := by
  induction m generalizing n with
  | zero => rw [Nat.zero_add]; rfl
  | succ m ih =>
    rw [List.replicate_succ, List.cons_append, show m + 1 + k = m + k + 1 by omega,
      run_pending_cons _ (exec_elapsedTick_waiting (by omega) _), ih (n + 1) (by omega), show n + 1 + m = n + (m + 1) by omega]

/-- The part as the COLD restart begins after the wait (R133 to R135). -/
def begun : State := (waiting 50).beginRestart .cold false

/-- The part as that restart ends (R135). -/
def started : State := begun.endScan .cold

theorem exec_steadinessWaitDone_waiting (queue : List Instr) :
    exec (.steadinessWaitDone false) ((waiting 50).withPending queue) = .next (begun.withPending queue) := rfl

theorem exec_restartScanEnd_begun : exec .restartScanEnd (begun.withPending []) = .next started := rfl

/-- The 54 steps from the first power (R130, R135). -/
theorem run_firstPower : Host.Core.run Sys2Proof.core 54 (State.reset.withPending
    ([.powerUp, .supplyGoodRise] ++ List.replicate 50 .elapsedTick ++ [.steadinessWaitDone false, .restartScanEnd])) =
      .next started := by
  rw [List.append_assoc, List.cons_append, List.cons_append, List.nil_append, run_pending_cons 53 (exec_powerUp_reset _),
    run_pending_cons 52 (exec_supplyGoodRise_reset _), run_ticks 2 _ 50 0 (by decide),
    run_pending_cons 1 (exec_steadinessWaitDone_waiting _), run_pending_cons 0 exec_restartScanEnd_begun]
  rfl

/-- Settles O41: the run ends in `started`, and its fields are those of the COLD restart on a blank array. -/
theorem firstPowerComesToRun : Obligations.FirstPowerComesToRun :=
  ⟨started, run_firstPower, rfl, rfl, rfl, rfl, rfl, rfl, rfl, ⟨_, rfl, rfl, rfl⟩, ⟨_, rfl, rfl⟩, rfl, rfl⟩

end Sys2Proof.Machine
end

section
/-! O52 and O48: the requests that wait in process, and COLLECT. -/

namespace Sys2Proof.Machine

open Sys2Proof

/-! ### READ RECORDS and FLUSH (R162, R168) -/

theorem State.prepare_answered {s : State} {p : Port} {frame : List Byte} {act : State → State} {r : InProcess}
    (takes : s.takesRequests p) (waits : act (s.setPort p (s.takenPort p frame)) =
      (s.setPort p (s.takenPort p frame)).prepare p r) : KeptInProcess p frame r s (s.request p frame act) := by
  rw [State.request_eq takes, waits]
  exact s.prepare_kept p frame r

/-- Bits 3 to 0 of a byte, as a number (R174). -/
theorem toNat_low_bits (count : Byte) : (count &&& 0x0F).toNat = count.toNat % 16 := by
  rw [BitVec.toNat_and]
  exact Nat.and_two_pow_sub_one_eq_mod count.toNat 4

theorem State.serveFlush_ends {s : State} (p : Port) (tag : Byte) (ends : s.store.queue = [] ∨ s.store.state = .held) :
    s.serveFlush p tag = s.complete p 11 tag .ok s.store.heldFlag (s.store.flushPayload s.store.newestQueued) := by
  unfold State.serveFlush
  exact if_pos (by simpa using ends)

theorem State.serveFlush_waits {s : State} (p : Port) (tag : Byte) (entries : s.store.queue ≠ [])
    (goes : s.store.state ≠ .held) : s.serveFlush p tag = s.prepare p (.flush tag s.store.newestQueued) := by
  unfold State.serveFlush
  exact if_neg (by simp [entries, goes])

/-- Settles O52: READ RECORDS is kept in process, and FLUSH is too unless the queue is empty or the store HELD. -/
theorem waitingRequestsKept : Obligations.WaitingRequestsKept := by
  intro p tag s takes
  refine ⟨fun first count => ⟨_, rfl, ?_⟩, fun ends => ⟨_, rfl, ?_⟩, fun entries goes => ⟨_, rfl, ?_⟩⟩
  · rw [toNat_low_bits]
    exact State.prepare_answered takes rfl
  · rw [State.request_eq takes, State.serveFlush_ends p tag (by rwa [State.setPort_store]), ← Store.newestQueued_eq]
    simp only [State.setPort_store]
    exact s.complete_answered p _ 11 tag .ok _ _
  · refine State.prepare_answered takes ?_
    rw [State.serveFlush_waits p tag (by rwa [State.setPort_store]) (by rwa [State.setPort_store]), State.setPort_store,
      Store.newestQueued_eq]

/-! ### COLLECT (R163) -/

theorem State.serveCollect_backward {s : State} {p : Port} {number : BitVec 32} (tag : Byte)
    (below : number.toNat < (s.port p).mark) :
    s.serveCollect p tag number = s.complete p 3 tag .backward 0 (s.collectPayload p) := by
  unfold State.serveCollect
  exact if_pos below

/-- The state as an accepted COLLECT answers, before the blocked block is judged (R110). -/
def State.collected (s : State) (p : Port) (tag : Byte) (number : BitVec 32) : State :=
  (s.setMark p number.toNat).complete p 3 tag .ok (if s.store.newest < number.toNat then flagClamped else 0)
    ((s.setMark p number.toNat).collectPayload p)

theorem State.serveCollect_accepted {s : State} {p : Port} {number : BitVec 32} (tag : Byte)
    (reached : (s.port p).mark ≤ number.toNat) :
    s.serveCollect p tag number = (s.collected p tag number).judgeHeld.finish := by
  unfold State.serveCollect
  exact if_neg (by omega)

/-- The mark of a port just taken is moved as on the part before it. -/
theorem State.setPort_mark_taken (s : State) (p : Port) (number : Nat) (frame : List Byte) :
    (s.setPort p (s.takenPort p frame)).setMark p number =
      (s.setPort p { s.port p with mark := min number s.store.newest }).setPort p
        ((s.setPort p { s.port p with mark := min number s.store.newest }).takenPort p frame) := by
  have out : (s.setPort p { s.port p with mark := min number s.store.newest }).bytesOut p frame.length =
      s.bytesOut p frame.length :=
    State.bytesOut_congr (by rw [State.setPort_monitor]) (by rw [State.setPort_port]) (by rw [State.setPort_port])
      (by rw [State.setPort_port]) _
  rw [State.setMark, State.onPort_eq, State.setPort_setPort, State.setPort_setPort, State.setPort_port,
    State.setPort_store, State.takenPort, State.takenPort, State.setPort_port, out]
  congr 1
  unfold PortState.taken
  cases (s.port p).replyState <;> rfl

/-- An accepted COLLECT is an answer with the mark moved up. -/
theorem State.collected_answered (s : State) (p : Port) (tag : Byte) (number : BitVec 32) (frame : List Byte) :
    Answered p frame 3 tag .ok (if s.store.newest < number.toNat then 16 else 0)
      (leBytes 4 (min number.toNat s.store.newest) ++ leBytes 2 s.store.epoch)
      (s.setPort p { s.port p with mark := min number.toNat s.store.newest })
      ((s.setPort p (s.takenPort p frame)).collected p tag number) := by
  unfold State.collected
  rw [State.setPort_mark_taken]
  have payload : ((s.setPort p { s.port p with mark := min number.toNat s.store.newest }).setPort p
      ((s.setPort p { s.port p with mark := min number.toNat s.store.newest }).takenPort p frame)).collectPayload p =
        leBytes 4 (min number.toNat s.store.newest) ++ leBytes 2 s.store.epoch := by
    simp only [State.collectPayload, State.setPort_port, State.setPort_store, State.takenPort_mark]
  rw [payload, State.setPort_store]
  exact State.complete_answered _ p frame 3 tag .ok _ _

theorem State.judgeHeld_store (s : State) : s.judgeHeld.store =
    if s.store.state = .held ∧ s.releasable s.store.blockAhead = true then
      { s.store with state := .normal, releaseCheck := none } else s.store := by
  unfold State.judgeHeld
  split <;> rfl

theorem State.judgeHeld_port (s : State) (p : Port) : s.judgeHeld.port p = s.port p := by
  unfold State.judgeHeld
  split <;> cases p <;> rfl

/-- The blocked block is judged again, and the lines with it: only the store and the attention lines change (R110). -/
theorem State.judgeHeld_finish_rest (s : State) : s.judgeHeld.finish =
    { s with store := s.judgeHeld.store.settle,
             operator := { s.operator with attention := s.judgeHeld.finish.operator.attention },
             consumer := { s.consumer with attention := s.judgeHeld.finish.consumer.attention } } := by
  conv_lhs => rw [State.judgeHeld_rest]
  conv_rhs => rw [State.judgeHeld_rest]
  rfl

theorem State.eq_of_setPort {s t : State} {p : Port} {port : PortState} {store : Store} {o c : Bool}
    (at' : t = { s.setPort p port with
      store := store,
      operator := { (s.setPort p port).operator with attention := o },
      consumer := { (s.setPort p port).consumer with attention := c } }) :
    t = { s with store := t.store, operator := t.operator, consumer := t.consumer } := by
  subst at'
  cases p <;> rfl

/-- Settles O48. -/
theorem collectAnswered : Obligations.CollectAnswered := by
  intro p tag number s takes
  refine ⟨fun below => ⟨_, rfl, ?backward⟩, fun reached => ?accepted⟩
  case backward =>
    rw [State.request_eq takes, State.serveCollect_backward tag (by rwa [State.setPort_port, State.takenPort_mark]),
      State.collectPayload, State.setPort_port, State.setPort_store, State.takenPort_mark]
    exact s.complete_answered p _ 3 tag .backward 0 _
  case accepted =>
    have answered := s.collected_answered p tag number (requestFrame p 3 tag (leBytes 4 number.toNat))
    have does : exec (.collect p tag number) s = .next
        ((s.setPort p (s.takenPort p (requestFrame p 3 tag (leBytes 4 number.toNat)))).collected p tag number).judgeHeld.finish := by
      change Host.Outcome.next (s.request p _ fun t => t.serveCollect p tag number) = _
      rw [State.request_eq takes, State.serveCollect_accepted tag (by rwa [State.setPort_port, State.takenPort_mark])]
    generalize (s.setPort p (s.takenPort p (requestFrame p 3 tag (leBytes 4 number.toNat)))).collected p tag number = u
      at answered does
    have at' := answered
    unfold Answered at at'
    rw [State.setPort_setPort] at at'
    have store : u.store = s.store := by rw [at', State.setPort_store]
    refine ⟨_, u, does, answered, ?_, ?_, State.finish_lineSound _ _, State.finish_lineSound _ _, ?_, ?_⟩
    · rw [State.finish_port, State.judgeHeld_port]
    · rw [State.finish_port, State.judgeHeld_port, at', State.setPort_port_other]
    · rw [State.finish_store, State.judgeHeld_store, store]
      show if s.store.state = .held ∧ u.releasable s.store.blockAhead = true then _ else _
      split <;> rfl
    · have rest := u.judgeHeld_finish_rest
      rw [at'] at rest
      rw [at']
      exact State.eq_of_setPort rest

end Sys2Proof.Machine
end

section
/-! O23: a record handed over is queued, or held back in an episode that a GAP record ends (R105, R111, R112). -/

namespace Sys2Proof.Machine

open Sys2Proof

theorem Store.hasRoom_iff (t : Store) :
    t.hasRoom = true ↔ t.queue.length < 6 ∧ t.newest + t.queue.length < max32 := by
  rw [Store.hasRoom, Bool.and_eq_true, decide_eq_true_iff, decide_eq_true_iff]
  rfl

theorem Store.accepts_iff (t : Store) : t.accepts = true ↔ t.state = .normal ∧ t.episode = none ∧ t.queue.length < 6
    ∧ t.newest + t.queue.length < max32 := by
  simp [Store.accepts, Store.hasRoom_iff, and_assoc]

theorem Store.take_accepted {t : Store} (accepts : t.accepts = true) (now : Stamp) (r : Record) :
    t.take now r = t.enqueue r := if_pos accepts

theorem Store.take_refused {t : Store} (refuses : t.accepts ≠ true) (now : Stamp) (r : Record) :
    t.take now r = t.holdBack now r := if_neg refuses

theorem Store.take_rest (t : Store) (now : Stamp) (r : Record) : (t.take now r).settle = { t with
    queue := ((t.take now r).settle).queue, episode := ((t.take now r).settle).episode,
    pendingOp := ((t.take now r).settle).pendingOp } := by
  unfold Store.take
  split <;> rfl

theorem bump16_eq (n : Nat) : bump16 n = min 65535 (n + 1) := by
  unfold bump16 saturate max16
  omega

/-- The open episode's GAP record is queued whole where the store has room (R112). -/
theorem Store.queueGap_due {t : Store} {e : Episode} (open' : t.episode = some e) (due : t.gapDue = true) :
    t.queueGap = { t.enqueue (.gap e.gapRecord) with episode := none } := by
  unfold Store.queueGap
  rw [open']
  exact if_pos due

theorem Store.gapDue_iff (t : Store) : t.gapDue = true ↔ t.state = .normal ∧ t.episode.isSome = true ∧ t.queue.length < 6
    ∧ t.newest + t.queue.length < max32 := by
  simp [Store.gapDue, Store.hasRoom_iff, and_assoc]

theorem State.holdupWrite_of_run {s : State} (run : s.monitor.state = .run) : s.holdupWrite = s :=
  if_neg fun h => by rw [run] at h; exact absurd h.1 (by decide)

theorem State.storeWorks_of_run {s : State} (run : s.monitor.state = .run) (scanned : s.store.scanned = true) :
    s.storeWorks = true := by
  simp [State.storeWorks, run, scanned]

/-- R112 in RUN, the lines as R169 has them: the GAP record is queued under the next number and the episode closes. -/
theorem State.queueGapRecord_of_run {s : State} {e : Episode} (run : s.monitor.state = .run)
    (isOpen : s.store.episode = some e) (due : s.store.gapDue = true) (sound : ∀ p, s.lineSound p) :
    s.queueGapRecord =
      { s with store := ({ s.store.enqueue (.gap e.gapRecord) with episode := none } : Store).settle } := by
  have idle : ({ s with store := s.store.queueGap } : State).holdupWrite = { s with store := s.store.queueGap } :=
    State.holdupWrite_of_run run
  unfold State.queueGapRecord
  rw [idle, Store.queueGap_due isOpen due]
  exact State.finish_of_lineSound sound

/-- The GAP record's duration saturates (R45, R112). -/
theorem Episode.gapRecord_eq (e : Episode) : e.gapRecord =
    { cause := .heldBack, startClock := e.start.clock, quality := e.start.quality, endClock := e.lastClock,
      duration := min max32 (e.lastElapsed - e.start.elapsed), windows := 0, counts := e.counts } := by
  unfold Episode.gapRecord durationOf saturate
  rw [Nat.min_comm]

/-- Settles O23: `Store.take` queues or holds back, and HELD_BACK_GAP_QUEUE queues the episode's GAP record. -/
theorem recordsAreQueuedOrHeldBack : Obligations.RecordsAreQueuedOrHeldBack := by
  refine ⟨fun s r => ⟨rfl, ?rest, fun free => ?queued, fun full => ?held⟩, ?counts, ?gap⟩
  case rest => exact congrArg (fun u => { s with store := u }) (s.store.take_rest s.now r)
  case queued =>
    have accepts := (Store.accepts_iff s.store).2 free
    show ((s.store.take s.now r).settle).queue = _ ∧ ((s.store.take s.now r).settle).episode = none
    rw [Store.take_accepted accepts]
    exact ⟨rfl, free.2.1⟩
  case held =>
    have refuses := mt (Store.accepts_iff s.store).1 full
    show ((s.store.take s.now r).settle).queue = _ ∧ ∃ e, ((s.store.take s.now r).settle).episode = some e ∧ _
    rw [Store.take_refused refuses]
    refine ⟨rfl, _, rfl, rfl, rfl, fun before isOpen => ?_, fun closed => ?_⟩
    · rw [isOpen]
      exact ⟨rfl, rfl⟩
    · rw [closed]
      exact ⟨rfl, rfl⟩
  case counts =>
    intro c x members w i g y z a
    simp only [HeldCounts.add, bump16_eq, and_self]
  case gap =>
    intro s e run scanned normal isOpen queue numbers operator consumer
    have due : s.store.gapDue = true := (Store.gapDue_iff _).2 ⟨normal, by rw [isOpen]; rfl, queue, numbers⟩
    have does : exec .heldBackGapQueue s = .next s.queueGapRecord := by
      change Host.Outcome.next (if (s.storeWorks && s.store.gapDue) = true then s.queueGapRecord else s) = _
      rw [State.storeWorks_of_run run scanned, due]
      rfl
    refine ⟨_, does, ?_⟩
    have sound : ∀ p, s.lineSound p := fun p => by cases p <;> assumption
    rw [State.queueGapRecord_of_run run isOpen due sound, Episode.gapRecord_eq]
    rfl

end Sys2Proof.Machine
end

section
/-! O35: the holdup ends when the store has finished, or torn when the supply collapses first (R116, R129). -/

namespace Sys2Proof.Machine

open Sys2Proof

/-- In RETAIN nothing is pending and both lines are released (R129, R160). -/
theorem State.enterRetain_eq (s : State) (complete : Bool) : s.enterRetain complete =
    { s with monitor := { s.monitor with state := .retain, holdupComplete := complete },
             store := { s.store with scanned := false, pendingOp := none },
             operator := { s.operator with attention := false }, consumer := { s.consumer with attention := false } } :=
  rfl

theorem State.tear_recordWrite {s : State} {bytes : List Byte} {chain : BitVec 32}
    (flight : s.store.inFlight = some (.recordWrite bytes chain)) :
    s.tear = { s.useFree with store := { s.store with
      array := Memory.tornWrite s.store.array s.freeIndex (slotAddress s.store.wpBlock s.store.wpSlot) bytes,
      inFlight := none } } := by
  unfold State.tear
  rw [flight]
  rfl

theorem slotAddress_eq (block slot : Nat) : slotAddress block slot = block * 4096 + slot * 32 := by
  unfold slotAddress
  rfl

/-- A head that fits in no slots left, or an empty queue, leaves the store nothing to write (R116). -/
theorem Store.headFits_false {t : Store} (long : ∀ e rest, t.queue = e :: rest → 128 < t.wpSlot + e.record.slots) :
    t.headFits = false := by
  cases queue : t.queue with
  | nil => rw [Store.headFits, queue]
  | cons e rest => rw [Store.headFits_cons queue]; exact decide_eq_false (Nat.not_le.2 (long e rest queue))

/-- The store has finished once nothing is in flight, no head fits and no episode is open (R116 step 3). -/
theorem State.holdupOver_of {s : State} (idle : s.store.inFlight = none) (closed : s.store.episode = none)
    (fits : s.store.headFits = false) : s.holdupOver = true := by
  simp [State.holdupOver, Store.holdupFinished, Store.gapDue, idle, closed, fits]

theorem State.holdupOver_busy {s : State} (busy : s.store.inFlight.isSome = true) : s.holdupOver = false := by
  simp [State.holdupOver, Store.holdupFinished, Option.isNone_eq_false_iff.2 busy]

theorem exec_supplyCollapse_holdup {s : State} (holdup : s.monitor.state = .holdup) :
    exec .supplyCollapse s = .next (s.tear.dropAreaWrites.enterRetain false) :=
  congrArg Host.Outcome.next (if_pos holdup)

/-- Settles O35: the end of the holdup is RETAIN entered, from a finished store or from one whose operation was torn. -/
theorem holdupEnds : Obligations.HoldupEnds := by
  intro s
  refine ⟨fun holdup idle _ _ closed long => ?done, fun holdup busy => ?busy, fun holdup idle => ?collapsed,
    fun bytes chain holdup flight slots wf => ?torn, fun elsewhere => ⟨?_, ?_⟩⟩
  case done =>
    have finished := State.holdupOver_of idle closed (Store.headFits_false long)
    exact congrArg Host.Outcome.next (if_pos ⟨holdup, finished⟩)
  case busy =>
    have waits := State.holdupOver_busy busy
    exact congrArg Host.Outcome.next (if_neg fun h => Bool.false_ne_true (waits.symm.trans h.2))
  case collapsed =>
    rw [exec_supplyCollapse_holdup holdup, State.tear_idle idle, State.enterRetain_eq]
    rfl
  case torn =>
    rw [exec_supplyCollapse_holdup holdup, State.tear_recordWrite flight, State.enterRetain_eq]
    refine ⟨_, rfl, rfl, rfl, rfl, rfl, rfl, rfl, fun a outside => ?_⟩
    exact Memory.read_tornWrite wf s.freeIndex _ a bytes slots (by rwa [slotAddress_eq])
  · exact congrArg Host.Outcome.next (if_neg fun h => elsewhere h.1)
  · exact congrArg Host.Outcome.next (if_neg elsewhere)

end Sys2Proof.Machine
end

section
/-! O26, O27 and O28: the completions at the array (R106, R109, R113 to R116). -/

namespace Sys2Proof.Machine

open Sys2Proof

/-! ### What follows a completion -/

/-- The drain of a reset has an empty queue (R113). -/
def Store.Drained (t : Store) : Prop := t.state = .resetting ∧ t.resetPhase = some .drain ∧ t.queue = []

/-- The reset note that the end of the drain hands to the area (R113). -/
def State.drainNote (s : State) : ResetNote :=
  { oldEpoch := s.store.epoch, newEpoch := s.bank.currentEpoch, oldLast := s.store.newest, oldChain := s.store.newestChain }

theorem State.endDrain_drained {s : State} (drained : s.store.Drained) :
    s.endDrain = { s with
      store := { s.store with resetPhase := some .noteWrite },
      bank := { s.bank with areaWrites := s.bank.areaWrites ++ [{ note := some (some s.drainNote) }] } } := by
  obtain ⟨resetting, drain, empty⟩ := drained
  exact if_pos ⟨resetting, drain, by rw [empty]; rfl⟩

theorem State.endDrain_undrained {s : State} (undrained : ¬ s.store.Drained) : s.endDrain = s :=
  if_neg fun h => undrained ⟨h.1, h.2.1, List.isEmpty_iff.1 h.2.2⟩

theorem State.afterCompletion_run {s : State} (run : s.monitor.state = .run) : s.afterCompletion = s.endDrain.finish := by
  have still : s.endDrain.monitor.state = .run := by rw [State.endDrain_rest]; exact run
  rw [State.afterCompletion, State.running_of_run run, if_pos rfl, State.holdupWrite_of_run still]

theorem State.afterCompletion_holdup {s : State} (holdup : s.monitor.state = .holdup) :
    s.afterCompletion = s.holdupWrite.finish := by
  have halted : s.running = false := by simp [State.running, holdup]
  rw [State.afterCompletion, halted, if_neg Bool.false_ne_true]

/-- In RUN with the queue not drained, a completion only brings the pending operation and the lines up to date. -/
theorem State.afterCompletion_undrained {s : State} (run : s.monitor.state = .run) (undrained : ¬ s.store.Drained) :
    s.afterCompletion = s.finish := by
  rw [State.afterCompletion_run run, State.endDrain_undrained undrained]

/-- A completion's consequences touch the reset phase, the operation in flight and the pending one, the writes of the area
and the lines alone. -/
theorem State.afterCompletion_frame (s : State) : s.afterCompletion = { s with
    store := { s.store with
      inFlight := s.afterCompletion.store.inFlight, resetPhase := s.afterCompletion.store.resetPhase,
      pendingOp := s.afterCompletion.store.pendingOp },
    bank := { s.bank with areaWrites := s.afterCompletion.bank.areaWrites },
    operator := { s.operator with attention := s.afterCompletion.operator.attention },
    consumer := { s.consumer with attention := s.afterCompletion.consumer.attention } } := by
  unfold State.afterCompletion
  split
  · by_cases drained : s.store.Drained
    · rw [State.endDrain_drained drained, State.holdupWrite_rest]
      rfl
    · rw [State.endDrain_undrained drained, State.holdupWrite_rest]
      rfl
  · rw [State.holdupWrite_rest]
    rfl

theorem State.afterCompletion_lineSound (s : State) (p : Port) : s.afterCompletion.lineSound p := State.finish_lineSound _ p

theorem State.endDrain_inFlight (s : State) : s.endDrain.store.inFlight = s.store.inFlight := by
  unfold State.endDrain
  split <;> rfl

/-! ### The write of the queue head (R106, R116) -/

theorem Store.commitHead_cons {t : Store} {e : Entry} {rest : List Entry} (queue : t.queue = e :: rest) (bytes : List Byte)
    (chain : Chain) : t.commitHead bytes chain = { t with
      array := Memory.writeBytes t.array (slotAddress t.wpBlock t.wpSlot) bytes,
      newest := e.number, newestChain := chain, queue := rest, wpSlot := t.wpSlot + bytes.length / slotBytes,
      blocks := recordIn t.blocks t.wpBlock e.number, oldest := some (t.oldest.getD e.number), inFlight := none } := by
  unfold Store.commitHead
  rw [queue]

theorem recordIn_used {blocks : List UsedBlock} {block : Nat} (used : ∃ u ∈ blocks, u.block = block) (number : Nat) :
    recordIn blocks block number = blocks.map fun u => if u.block = block then { u with last := number } else u := by
  unfold recordIn
  exact if_pos (by simpa using used)

theorem recordIn_blank {blocks : List UsedBlock} {block : Nat} (blank : ∀ u ∈ blocks, u.block ≠ block) (number : Nat) :
    recordIn blocks block number = blocks ++ [{ block := block, first := number, last := number }] := by
  unfold recordIn
  exact if_neg (by simpa using blank)

theorem Memory.read_writeSlots {m : Memory} (wf : Memory.wf m = true) (block slot : Nat) (bytes : List Byte) (a : Nat) :
    Memory.read (Memory.writeBytes m (slotAddress block slot) bytes) a =
      if block * 4096 + slot * 32 ≤ a ∧ a < block * 4096 + slot * 32 + bytes.length then
        bytes.getD (a - (block * 4096 + slot * 32)) 0 else Memory.read m a := by
  rw [Memory.read_writeBytes wf, slotAddress_eq]

/-- The part with the queue head committed, before what follows the completion. -/
def State.committed (s : State) (bytes : List Byte) (chain : Chain) : State :=
  { s with store := s.store.commitHead bytes chain }

section
variable {s : State} {e : Entry} {rest : List Entry} {bytes : List Byte} {chain : Chain}

theorem exec_recordWriteComplete (flight : s.store.inFlight = some (.recordWrite bytes chain)) :
    exec .recordWriteComplete s = .next (s.committed bytes chain).afterCompletion := by
  change Host.Outcome.next (match s.store.inFlight with
    | some (.recordWrite bytes chain) => { s with store := s.store.commitHead bytes chain }.afterCompletion
    | _ => s) = _
  rw [flight]
  rfl

theorem State.committed_store (queue : s.store.queue = e :: rest) : (s.committed bytes chain).store = { s.store with
    array := Memory.writeBytes s.store.array (slotAddress s.store.wpBlock s.store.wpSlot) bytes,
    newest := e.number, newestChain := chain, queue := rest, wpSlot := s.store.wpSlot + bytes.length / 32,
    blocks := recordIn s.store.blocks s.store.wpBlock e.number, oldest := some (s.store.oldest.getD e.number),
    inFlight := none } := Store.commitHead_cons queue bytes chain

/-- The next head's write that starts by itself in HOLDUP (R116). -/
theorem State.committed_goesOn {n : Entry} {more : List Entry} (holdup : s.monitor.state = .holdup)
    (scanned : s.store.scanned = true) (works : s.store.state ≠ .resetting) (queue : s.store.queue = e :: n :: more)
    (fits : s.store.wpSlot + bytes.length / 32 + n.record.slots ≤ 128) :
    (s.committed bytes chain).afterCompletion.store.inFlight = some (.recordWrite
      (n.record.bytes n.number (chainOf chain (n.record.bytes n.number 0))) (chainOf chain (n.record.bytes n.number 0))) := by
  have store := State.committed_store (bytes := bytes) (chain := chain) queue
  have starts := State.holdupWrite_starts (s := s.committed bytes chain) (e := n) (rest := more) holdup
    (by rw [store]; exact scanned) (by rw [store]) (by rw [store]; exact works) (by rw [store]) (by rw [store]; exact fits)
  rw [State.afterCompletion_holdup (s := s.committed bytes chain) holdup, State.finish_store]
  refine starts.trans ?_
  rw [store]
  rfl

/-- Without a head that goes on in HOLDUP, nothing is in flight after the completion. -/
theorem State.committed_rests (works : s.monitor.state = .run ∨ s.monitor.state = .holdup)
    (queue : s.store.queue = e :: rest)
    (long : s.monitor.state = .holdup ∧ s.store.scanned = true ∧ s.store.state ≠ .resetting →
      ∀ n more, rest = n :: more → 128 < s.store.wpSlot + bytes.length / 32 + n.record.slots) :
    (s.committed bytes chain).afterCompletion.store.inFlight = none := by
  have store := State.committed_store (bytes := bytes) (chain := chain) queue
  obtain run | holdup := works
  · rw [State.afterCompletion_run (s := s.committed bytes chain) run, State.finish_store, Store.settle_inFlight,
      State.endDrain_inFlight, store]
  · rw [State.afterCompletion_holdup (s := s.committed bytes chain) holdup, State.finish_store, Store.settle_inFlight,
      State.holdupWrite, if_neg, store]
    rintro ⟨holdup, scanned, -, still, fits⟩
    rw [store] at scanned still fits
    rw [Store.headFits_false (long ⟨holdup, scanned, still⟩)] at fits
    exact Bool.false_ne_true fits

end

/-- Settles O26: the head is committed by `Store.commitHead`, and `State.afterCompletion` ends a drain or starts the next
write. -/
theorem recordWriteCommits : Obligations.RecordWriteCommits := by
  intro s e rest bytes chain works flight queue wf
  have store := State.committed_store (bytes := bytes) (chain := chain) queue
  have frame := (s.committed bytes chain).afterCompletion_frame
  have rests := State.committed_rests (bytes := bytes) (chain := chain) works queue
  have sound := (s.committed bytes chain).afterCompletion_lineSound
  refine ⟨_, exec_recordWriteComplete flight, ?_⟩
  have newest := (congrArg (fun t => t.store.newest) frame).trans (congrArg Store.newest store)
  have newestChain := (congrArg (fun t => t.store.newestChain) frame).trans (congrArg Store.newestChain store)
  have left := (congrArg (fun t => t.store.queue) frame).trans (congrArg Store.queue store)
  have wpBlock := (congrArg (fun t => t.store.wpBlock) frame).trans (congrArg Store.wpBlock store)
  have wpSlot := (congrArg (fun t => t.store.wpSlot) frame).trans (congrArg Store.wpSlot store)
  have oldest := (congrArg (fun t => t.store.oldest) frame).trans (congrArg Store.oldest store)
  have blocks := (congrArg (fun t => t.store.blocks) frame).trans (congrArg Store.blocks store)
  have array := (congrArg (fun t => t.store.array) frame).trans (congrArg Store.array store)
  dsimp only at newest newestChain left wpBlock wpSlot oldest blocks array
  refine ⟨newest, newestChain, left, wpBlock, wpSlot, oldest, fun used => blocks.trans (recordIn_used used e.number),
    fun blank => blocks.trans (recordIn_blank blank e.number), ?drained, ?undrained, ?goesOn, rests, fun a => ?read,
    sound .operator, sound .consumer, ?frame⟩
  case drained =>
    rintro ⟨run, resetting, drain, rfl⟩
    have empty : (s.committed bytes chain).store.Drained := by rw [store]; exact ⟨resetting, drain, rfl⟩
    rw [State.afterCompletion_run (s := s.committed bytes chain) run, State.endDrain_drained empty]
    refine ⟨rfl, ?_⟩
    show s.bank.areaWrites ++ [{ note := some (some (s.committed bytes chain).drainNote) }] = _
    rw [State.drainNote, store]
    rfl
  case undrained =>
    intro undrained
    have phase : (s.committed bytes chain).store.resetPhase = s.store.resetPhase := by rw [store]
    rw [← phase]
    obtain run | holdup := works
    · have entries : ¬ (s.committed bytes chain).store.Drained := by rw [store]; exact fun h => undrained ⟨run, h⟩
      rw [State.afterCompletion_undrained (s := s.committed bytes chain) run entries]
      exact ⟨rfl, rfl⟩
    · rw [State.afterCompletion_holdup (s := s.committed bytes chain) holdup, State.holdupWrite_rest]
      exact ⟨rfl, rfl⟩
  case goesOn =>
    rintro n more ⟨holdup, scanned, still⟩ rfl fits
    exact State.committed_goesOn holdup scanned still queue fits
  case read =>
    rw [array]
    exact Memory.read_writeSlots wf _ _ bytes a
  case frame =>
    rw [newest, newestChain, left, wpSlot, oldest, blocks, array]
    refine frame.trans ?_
    rw [store]
    rfl

/-! ### PAD fills and erases (R106, R109, R114) -/

/-- What a completion in RUN with no drain to end leaves: the store, its pending operation brought up to date, and the
lines. -/
theorem State.finish_frame (s : State) (t : Store) : ({ s with store := t } : State).finish = { s with
    store := { t with pendingOp := ({ s with store := t } : State).finish.store.pendingOp },
    operator := { s.operator with attention := ({ s with store := t } : State).finish.operator.attention },
    consumer := { s.consumer with attention := ({ s with store := t } : State).finish.consumer.attention } } := rfl

theorem Store.not_drained {t : Store} (entries : t.resetPhase = some .drain → t.queue ≠ []) : ¬ t.Drained :=
  fun ⟨_, drain, empty⟩ => entries drain empty

section
variable {s : State}

theorem exec_padFillComplete_run (run : s.monitor.state = .run) (flight : s.store.inFlight = some .padFill)
    (entries : s.store.resetPhase = some .drain → s.store.queue ≠ []) :
    exec .padFillComplete s = .next ({ s with store := s.store.padded } : State).finish := by
  rw [← State.afterCompletion_undrained (s := { s with store := s.store.padded }) run (Store.not_drained entries)]
  change Host.Outcome.next (match s.store.inFlight with
    | some .padFill => { s with store := s.store.padded }.afterCompletion
    | _ => s) = _
  rw [flight]

theorem exec_eraseComplete_run {block : Nat} (run : s.monitor.state = .run)
    (flight : s.store.inFlight = some (.eraseBlock block))
    (entries : s.store.resetPhase = some .drain → s.store.queue ≠ []) :
    exec .eraseComplete s = .next ({ s with store := s.store.erased block } : State).finish := by
  rw [← State.afterCompletion_undrained (s := { s with store := s.store.erased block }) run (Store.not_drained entries)]
  change Host.Outcome.next (match s.store.inFlight with
    | some (.eraseBlock block) => { s with store := s.store.erased block }.afterCompletion
    | _ => s) = _
  rw [flight]

theorem exec_resetEraseComplete {block : Nat} (flight : s.store.inFlight = some (.resetErase block)) :
    exec .resetEraseComplete s = .next ({ s with store := s.store.resetErased block s.now } : State).finish := by
  change Host.Outcome.next (match s.store.inFlight with
    | some (.resetErase block) => { s with store := s.store.resetErased block s.now }.finish
    | _ => s) = _
  rw [flight]

end

/-- The slots left in a block hold PAD markers once filled (R106). -/
theorem Store.read_padded {t : Store} (wf : Memory.wf t.array = true) (inside : t.wpSlot ≤ 128) (a : Nat) :
    Memory.read t.padded.array a = if t.wpBlock * 4096 + t.wpSlot * 32 ≤ a ∧ a < (t.wpBlock + 1) * 4096 then 0
      else Memory.read t.array a := by
  have size : (List.replicate (t.slotsLeft * slotBytes) (0 : Byte)).length = 4096 - t.wpSlot * 32 := by
    rw [List.length_replicate, Store.slotsLeft, blockSlots, slotBytes]
    omega
  refine (Memory.read_writeSlots wf _ _ _ a).trans ?_
  rw [size]
  refine if_congr (by omega) ?_ rfl
  rw [List.getD_eq_getElem?_getD]
  exact List.getElem?_getD_replicate_default_eq _ _ _

theorem mem_withoutBlock {blocks : List UsedBlock} {block : Nat} {u : UsedBlock} :
    u ∈ withoutBlock blocks block ↔ u ∈ blocks ∧ u.block ≠ block := by
  simp [withoutBlock]

/-- `nextUsed` takes a block that lies nearest after the given one (R109). -/
theorem nextUsed_nearest {block : Nat} {blocks : List UsedBlock} (some' : blocks ≠ []) :
    ∃ u ∈ blocks, nextUsed block blocks = some u
      ∧ ∀ w ∈ blocks, distanceAfter block u.block ≤ distanceAfter block w.block := by
  induction blocks with
  | nil => exact absurd rfl some'
  | cons u rest ih =>
    by_cases last : rest = []
    · subst last
      exact ⟨u, List.mem_singleton.2 rfl, rfl, fun w hw => by rw [List.mem_singleton.1 hw]⟩
    · obtain ⟨v, mem, found, nearest⟩ := ih last
      by_cases nearer : distanceAfter block v.block < distanceAfter block u.block
      · refine ⟨v, List.mem_cons_of_mem _ mem, by rw [nextUsed, found]; exact if_pos nearer, fun w hw => ?_⟩
        obtain rfl | later := List.mem_cons.1 hw
        · exact nearer.le
        · exact nearest w later
      · refine ⟨u, List.mem_cons_self, by rw [nextUsed, found]; exact if_neg nearer, fun w hw => ?_⟩
        obtain rfl | later := List.mem_cons.1 hw
        · exact le_rfl
        · exact (not_lt.1 nearer).trans (nearest w later)

/-- After block 1,023 the EPOCH record is made, and before it the next block is due (R114, R115). -/
theorem afterResetErase_erasing (note : ResetNote) (next block : Nat) (now : Stamp) :
    afterResetErase (some (.erasing note next)) block now =
      if block < 1023 then some (.erasing note (block + 1)) else some (.epochWrite { stamp := now, note := note }) := by
  unfold afterResetErase blockCount
  exact if_congr (by omega) rfl rfl

/-- Settles O27: in RUN, with no drain to end, each completion leaves the store that its rule gives. -/
theorem fillsAndErasesComplete : Obligations.FillsAndErasesComplete := by
  intro s run entries wf
  refine ⟨fun flight inside => ?pad, fun block flight => ?erase, fun block note next flight phase => ?resetErase⟩
  case pad =>
    refine ⟨_, exec_padFillComplete_run run flight entries, ?_, rfl, rfl, rfl, rfl, rfl, fun a => ?_⟩
    · exact State.finish_frame s s.store.padded
    · exact Store.read_padded wf inside a
  case erase =>
    refine ⟨_, exec_eraseComplete_run run flight entries, State.finish_frame s (s.store.erased block), rfl, rfl, rfl,
      fun u mem => (mem_withoutBlock.1 mem).2, fun u mem other => mem_withoutBlock.2 ⟨mem, other⟩, fun none' => ?_,
      fun some' => ?_, fun a => Memory.read_eraseBlock wf block a⟩
    · exact congrArg (fun l => (nextUsed block l).map (·.first)) none'
    · obtain ⟨u, mem, found, nearest⟩ := nextUsed_nearest (block := block) some'
      exact ⟨u, mem, congrArg (Option.map UsedBlock.first) found, nearest⟩
  case resetErase =>
    refine ⟨_, exec_resetEraseComplete flight, State.finish_frame s (s.store.resetErased block s.now), rfl,
      fun u mem => (mem_withoutBlock.1 mem).2, ?_, fun a => Memory.read_eraseBlock wf block a⟩
    exact (congrArg (fun p => afterResetErase p block s.now) phase).trans (afterResetErase_erasing note next block s.now)

/-! ### The end of an epoch reset (R115) -/

theorem exec_epochWriteComplete_run {s : State} {bytes : List Byte} {chain : Chain} (run : s.monitor.state = .run)
    (flight : s.store.inFlight = some (.epochWrite bytes chain)) :
    exec .epochWriteComplete s = .next (s.endReset bytes chain).finish := by
  change Host.Outcome.next (match s.store.inFlight with
    | some (.epochWrite bytes chain) => ((s.endReset bytes chain).holdupWrite).finish
    | _ => s) = _
  rw [flight]
  dsimp only
  rw [State.holdupWrite_of_run (s := s.endReset bytes chain) run]

theorem Store.epochOpening_eq {t : Store} {r : EpochRecord} (phase : t.resetPhase = some (.epochWrite r)) :
    t.epochOpening = r.note.newEpoch := by
  rw [Store.epochOpening, phase]

theorem matrixClear_eq : matrixClear = List.replicate 31 0 := rfl

/-- The part as the reset ends in RUN (R83, R115, R163). -/
theorem State.endReset_finish_frame {s : State} {r : EpochRecord} (phase : s.store.resetPhase = some (.epochWrite r))
    (bytes : List Byte) (chain : Chain) : (s.endReset bytes chain).finish = { s with
      store := { s.store with
        array := (s.endReset bytes chain).finish.store.array, newest := 1, newestChain := chain, oldest := some 1,
        epoch := r.note.newEpoch, state := .normal, resetPhase := none, releaseCheck := none, inFlight := none,
        blocks := (s.endReset bytes chain).finish.store.blocks, wpBlock := 0, wpSlot := 1,
        pendingOp := (s.endReset bytes chain).finish.store.pendingOp },
      bank := { s.bank with area := { s.bank.area with note := none, resetMark := false } },
      matrix := (s.endReset bytes chain).finish.matrix,
      operator := { s.operator with mark := 0, attention := (s.endReset bytes chain).finish.operator.attention },
      consumer := { s.consumer with mark := 0, attention := (s.endReset bytes chain).finish.consumer.attention } } := by
  rw [← Store.epochOpening_eq phase]
  rfl

/-- Settles O28: the EPOCH record's completion is `State.endReset`, and the lines are judged after it. -/
theorem epochWriteEndsReset : Obligations.EpochWriteEndsReset := by
  intro s bytes chain r run flight phase wf
  refine ⟨_, exec_epochWriteComplete_run run flight, rfl, rfl, rfl, Store.epochOpening_eq phase, rfl, rfl, rfl, rfl, rfl, rfl,
    rfl, rfl, rfl, matrixClear_eq, State.endReset_finish_frame phase bytes chain, fun blank => ?blocks, fun a => ?read,
    State.finish_lineSound _ _, State.finish_lineSound _ _⟩
  case blocks => exact recordIn_blank blank 1
  case read =>
    refine (Memory.read_writeSlots wf 0 0 bytes a).trans ?_
    simp only [Nat.zero_mul, Nat.zero_add, Nat.zero_le, true_and, Nat.sub_zero]

end Sys2Proof.Machine
end

section
/-! O24: the arbiter serves reads first, with their records, and then starts the store's pending operation (R106 to R110,
R113 to R115, R162). -/

namespace Sys2Proof.Machine

open Sys2Proof

/-! ### The grant -/

theorem exec_arbiterGrant_run {s : State} (run : s.monitor.state = .run) (scanned : s.store.scanned = true)
    (idle : s.store.inFlight = none) : exec .arbiterGrant s = .next (match s.nextReader with
      | some p => s.serveRead p
      | none => s.startPending.finish) := by
  change Host.Outcome.next (if (s.store.scanned && s.store.inFlight.isNone) = true then s.grant else s) = _
  rw [scanned, idle, State.grant, run]
  rfl

/-- With a read waiting on one port, and none on the other or the other served last, that port is served (R107). -/
theorem State.nextReader_some {s : State} {p : Port} (waits : (s.port p).waitingRead.isSome = true)
    (turn : (s.port p.other).waitingRead = none ∨ s.store.lastServed = p.other) : s.nextReader = some p := by
  unfold State.nextReader
  cases p with
  | operator =>
    rw [show s.operator.waitingRead.isSome = true from waits]
    obtain free | last := turn
    · rw [show s.consumer.waitingRead = none from free]
      rfl
    · rw [last]
      cases s.consumer.waitingRead.isSome <;> rfl
  | consumer =>
    rw [show s.consumer.waitingRead.isSome = true from waits]
    obtain free | last := turn
    · rw [show s.operator.waitingRead = none from free]
      rfl
    · rw [last]
      cases s.operator.waitingRead.isSome <;> rfl

theorem State.nextReader_none {s : State} (operator : s.operator.waitingRead = none)
    (consumer : s.consumer.waitingRead = none) : s.nextReader = none := by
  rw [State.nextReader, operator, consumer]
  rfl

theorem PortState.waitingRead_eq {t : PortState} {tag : Byte} {first count : Nat}
    (h : t.inProcess = some (.read tag first count)) : t.waitingRead = some (tag, first, count) := by
  rw [PortState.waitingRead, h]

/-- R162: the reply of a served read is complete, and its port is the one served last. -/
theorem State.serveRead_eq {s : State} {p : Port} {tag : Byte} {first count : Nat}
    (waits : (s.port p).waitingRead = some (tag, first, count)) :
    s.serveRead p = ({ s with store := { s.store with lastServed := p } }.setPort p
      { s.port p with
        inProcess := none, replyState := .ready, overrun := false, abandoned := false,
        reply := replyFrame p 2 tag .ok
          (replyFlags (s.port p).overrun (s.port p).abandoned (s.store.readReply first count).1)
          (leBytes 1 (s.store.readReply first count).2.length ++ (s.store.readReply first count).2.flatten) }) := by
  unfold State.serveRead
  rw [waits]
  cases p <;> rfl

/-! ### The pending operation starts (R106, R109, R114, R115) -/

/-- An operation put in flight leaves nothing pending, and the lines as R169 has them. -/
theorem State.finish_started {s : State} {t : Store} (sound : ∀ p, s.lineSound p) (state : t.state = s.store.state)
    (newest : t.newest = s.store.newest) (busy : t.inFlight.isSome = true) :
    ({ s with store := t } : State).finish = { s with store := { t with pendingOp := none } } := by
  have still : ∀ p, ({ s with store := t } : State).lineSound p := fun p =>
    (State.lineSound_congr (s := s) (t := { s with store := t }) rfl state newest rfl rfl (by cases p <;> rfl)).2 (sound p)
  rw [State.finish_of_lineSound still]
  show ({ s with store := t.settle } : State) = _
  rw [Store.settle, Store.dueOp_busy busy]

theorem Store.enterBlank_startWrite {t : Store} {e : Entry} {rest : List Entry} (queue : t.queue = e :: rest) :
    t.enterBlank.startWrite = { t with
      wpBlock := if t.wpSlot < 128 then t.wpBlock else (t.wpBlock + 1) % 1024,
      wpSlot := if t.wpSlot < 128 then t.wpSlot else 0,
      inFlight := some (.recordWrite (e.record.bytes e.number (chainOf t.newestChain (e.record.bytes e.number 0)))
        (chainOf t.newestChain (e.record.bytes e.number 0))) } := by
  unfold Store.enterBlank Store.slotsLeft blockSlots
  by_cases left : t.wpSlot < 128
  · rw [if_neg (by omega), if_pos left, if_pos left]
    unfold Store.startWrite
    rw [queue]
    rfl
  · rw [if_pos (by omega), if_neg left, if_neg left]
    unfold Store.startWrite
    simp only [queue]
    rfl

/-- R110: the store enters HELD with nothing pending, and both lines are asserted. -/
theorem State.enterHeld_finish {s : State} (run : s.monitor.state = .run) : s.enterHeld.finish = { s with
    store := { s.store with
      state := .held, releaseCheck := some (s.monitor.elapsed + 60000), pendingOp := none },
    operator := { s.operator with attention := true }, consumer := { s.consumer with attention := true } } := by
  have due : ∀ p, ({ s.enterHeld with store := s.enterHeld.store.settle } : State).attentionDue p = true := fun p => by
    have running : ({ s.enterHeld with store := s.enterHeld.store.settle } : State).running = true :=
      State.running_of_run run
    have held : ({ s.enterHeld with store := s.enterHeld.store.settle } : State).store.state = .held := rfl
    rw [State.attentionDue, running, held]
    simp
  have settled : s.enterHeld.store.settle = { s.store with
      state := .held, releaseCheck := some (s.monitor.elapsed + 60000), pendingOp := none } := by
    rw [Store.settle, Store.dueOp_waits (.inl rfl)]
    rfl
  unfold State.finish State.judgeLines
  rw [due, due, settled]
  rfl

/-! ### A queue taken out into the episode (R111, R113) -/

theorem Store.holdBack_rest (t : Store) (now : Stamp) (r : Record) :
    t.holdBack now r = { t with episode := (t.holdBack now r).episode } := rfl

theorem Store.holdBacks_rest (now : Stamp) (entries : List Entry) (t : Store) :
    entries.foldl (fun t e => t.holdBack now e.record) t =
      { t with episode := (entries.foldl (fun t e => t.holdBack now e.record) t).episode } := by
  induction entries generalizing t with
  | nil => rfl
  | cons e rest ih => rw [List.foldl_cons, ih, Store.holdBack_rest]

/-- Held back in order, the entries count in one episode, whose last moment is now. -/
theorem Store.holdBacks_episode (now : Stamp) (entries : List Entry) (some' : entries ≠ []) (t : Store) :
    ∃ e, (entries.foldl (fun t e => t.holdBack now e.record) t).episode = some e ∧ e.lastClock = now.clock
      ∧ e.lastElapsed = now.elapsed ∧ e.start = (t.episode.map (·.start)).getD now
      ∧ e.counts = entries.foldl (fun c x => c.add x.record) ((t.episode.map (·.counts)).getD HeldCounts.zero) := by
  induction entries generalizing t with
  | nil => exact absurd rfl some'
  | cons x rest ih =>
    have first : ∃ e, (t.holdBack now x.record).episode = some e ∧ e.lastClock = now.clock ∧ e.lastElapsed = now.elapsed
        ∧ e.start = (t.episode.map (·.start)).getD now
        ∧ e.counts = ((t.episode.map (·.counts)).getD HeldCounts.zero).add x.record := by
      refine ⟨_, rfl, rfl, rfl, ?_, ?_⟩ <;> cases t.episode <;> rfl
    obtain ⟨e, episode, lastClock, lastElapsed, start, counts⟩ := first
    by_cases last : rest = []
    · subst last
      exact ⟨e, episode, lastClock, lastElapsed, start, counts⟩
    · obtain ⟨later, held, clock, elapsed, began, counted⟩ := ih last (t.holdBack now x.record)
      rw [episode] at began counted
      exact ⟨later, held, clock, elapsed, began.trans start, by rw [counted, List.foldl_cons, ← counts]; rfl⟩

theorem State.takeOutQueue_eq (s : State) : s.takeOutQueue = { s with store := { s.store with
    queue := [], episode := (s.store.queue.foldl (fun t e => t.holdBack s.now e.record) s.store).episode } } := by
  unfold State.takeOutQueue
  rw [Store.holdBacks_rest]

/-- R113: the drain of a reset that a blocked erase meets takes the queue out, and the reset note goes to the area. -/
theorem State.drainBlocked_finish {s : State} (resetting : s.store.state = .resetting)
    (drain : s.store.resetPhase = some .drain) (sound : ∀ p, s.lineSound p) :
    s.takeOutQueue.endDrain.finish = { s with
      store := { s.store with
        queue := [], episode := (s.store.queue.foldl (fun t e => t.holdBack s.now e.record) s.store).episode,
        resetPhase := some .noteWrite, pendingOp := none },
      bank := { s.bank with areaWrites := s.bank.areaWrites ++ [{ note := some (some s.drainNote) }] } } := by
  have drained : s.takeOutQueue.store.Drained := by rw [State.takeOutQueue_eq]; exact ⟨resetting, drain, rfl⟩
  have note : s.takeOutQueue.drainNote = s.drainNote := by rw [State.takeOutQueue_eq]; rfl
  have still : ∀ p, s.takeOutQueue.endDrain.lineSound p := fun p => by
    rw [State.endDrain_drained drained, State.takeOutQueue_eq]
    exact (State.lineSound_congr (s := s) rfl rfl rfl rfl rfl (by cases p <;> rfl)).2 (sound p)
  rw [State.finish_of_lineSound still, Store.settle,
    Store.dueOp_waits (.inr (by rw [State.endDrain_drained drained, State.takeOutQueue_eq]; exact ⟨resetting, rfl⟩)),
    State.endDrain_drained drained, note, State.takeOutQueue_eq]

/-! ### The reply to a READ RECORDS (R108, R162) -/

theorem Memory.mem_blockRecords {m : Memory} {block : Nat} {x : Stored} :
    x ∈ Memory.blockRecords m block ↔ ∃ c, Memory.candidate m block = some c ∧ x ∈ c.records := by
  cases h : Memory.candidate m block with
  | none => simp [Memory.blockRecords_of_none h]
  | some c => simp [Memory.blockRecords_of_candidate h]

theorem Store.mem_recordsWithin {t : Store} {lo hi : Nat} {x : Stored} : x ∈ t.recordsWithin lo hi ↔
    ∃ u ∈ t.blocks, (u.first ≤ hi ∧ lo ≤ u.last) ∧ ∃ c, Memory.candidate t.array u.block = some c ∧ x ∈ c.records := by
  simp only [Store.recordsWithin, List.mem_flatMap, List.mem_filter, Bool.and_eq_true, decide_eq_true_eq,
    Memory.mem_blockRecords, and_assoc]

theorem readItem_committed (bytes : List Byte) : readItem false bytes = 0 :: bytes := rfl

theorem readItem_uncommitted (bytes : List Byte) : readItem true bytes = 1 :: bytes := rfl

section
variable {t : Store} {stored : List Stored} {n : Nat}

/-- What is read for a number: a stored record at or below newest committed, and a queue entry above it. -/
theorem Store.readOne_some {bytes : List Byte} (h : t.readOne stored n = some bytes) :
    (n ≤ t.newest ∧ ∃ x ∈ stored, x.number = n ∧ bytes = 0 :: x.bytes)
      ∨ (t.newest < n ∧ ∃ e ∈ t.queue, e.number = n ∧ bytes = 1 :: e.record.bytes n 0) := by
  unfold Store.readOne at h
  split at h
  case isTrue low =>
    obtain ⟨x, found, rfl⟩ := Option.map_eq_some_iff.1 h
    exact .inl ⟨low, x, List.mem_of_find?_eq_some found, by simpa using List.find?_some found, readItem_committed _⟩
  case isFalse high =>
    obtain ⟨e, found, rfl⟩ := Option.map_eq_some_iff.1 h
    have number : e.number = n := by simpa using List.find?_some found
    exact .inr ⟨not_le.1 high, e, List.mem_of_find?_eq_some found, number, by rw [readItem_uncommitted, number]⟩

theorem Store.readOne_stored (low : n ≤ t.newest) (found : ∃ x ∈ stored, x.number = n) : t.readOne stored n ≠ none := by
  obtain ⟨x, mem, number⟩ := found
  rw [Store.readOne, if_pos low, Ne, Option.map_eq_none_iff, List.find?_eq_none]
  exact fun none' => none' x mem (by simp [number])

theorem Store.readOne_queued (high : t.newest < n) (found : ∃ e ∈ t.queue, e.number = n) : t.readOne stored n ≠ none := by
  obtain ⟨e, mem, number⟩ := found
  rw [Store.readOne, if_neg (not_le.2 high), Ne, Option.map_eq_none_iff, List.find?_eq_none]
  exact fun none' => none' e mem (by simp [number])

end

theorem Store.readReply_empty {t : Store} (empty : t.oldest = none) (first count : Nat) :
    t.readReply first count = (if first ≤ t.newest then 4 + 8 else 8, []) := by
  rw [Store.readReply, empty]
  dsimp only
  split <;> rfl

theorem Store.readReply_above {t : Store} {oldest first : Nat} (some' : t.oldest = some oldest) (from' : oldest ≤ first)
    (above : t.newest + t.queue.length < first) (count : Nat) : t.readReply first count = (0, []) := by
  rw [Store.readReply, some']
  dsimp only
  rw [if_neg (not_lt.2 from'), Store.newestAssigned, if_neg (not_le.2 above)]

theorem Store.readReply_records {t : Store} {oldest first : Nat} (some' : t.oldest = some oldest)
    (reaches : first < oldest ∨ first ≤ t.newest + t.queue.length) (count : Nat) :
    t.readReply first count = (if first < oldest then 4 else 0, t.readFrom (max first oldest) count) := by
  rw [Store.readReply, some']
  dsimp only
  by_cases below : first < oldest
  · rw [if_pos below, if_pos below, max_eq_right below.le]
    rfl
  · rw [if_neg below, Store.newestAssigned, if_pos (reaches.resolve_left below), if_neg below,
      max_eq_left (not_lt.1 below)]

/-- Settles O24: the grant in RUN is `State.serveRead` or `State.startPending`, and a reply's records are `Store.readOne`'s. -/
theorem arbiterGivesTheArray : Obligations.ArbiterGivesTheArray := by
  refine ⟨fun s run scanned idle => ⟨fun p tag first count waits turn => ?read, fun operator consumer so sc => ?start⟩,
    fun t first count => ⟨fun empty => Store.readReply_empty empty first count, fun oldest some' =>
      ⟨fun from' above => Store.readReply_above some' from' above count, fun reaches => ?records⟩⟩⟩
  case read =>
    have waiting := PortState.waitingRead_eq waits
    rw [exec_arbiterGrant_run run scanned idle, State.nextReader_some (by rw [waiting]; rfl) turn]
    exact congrArg Host.Outcome.next (State.serveRead_eq waiting)
  case start =>
    have sound : ∀ p, s.lineSound p := fun p => by cases p <;> assumption
    have grants : exec .arbiterGrant s = .next s.startPending.finish := by
      rw [exec_arbiterGrant_run run scanned idle, State.nextReader_none operator consumer]
    have judges : ∀ b, s.store.pendingOp = some (.eraseBlock b) → s.startPending = s.judgeErase b := fun b op => by
      rw [State.startPending, op]
    rw [grants]
    refine ⟨fun e rest op queue => ?write, fun op => ?pad, fun b op free => ?erase, fun b op blocked normal => ?held,
      fun b op blocked resetting drain => ?drain, fun b op => ?resetErase, fun r op phase => ?epoch⟩
    case write =>
      rw [State.startPending, op]
      dsimp only
      rw [Store.enterBlank_startWrite queue]
      exact congrArg Host.Outcome.next (State.finish_started sound rfl rfl rfl)
    case pad =>
      rw [State.startPending, op]
      exact congrArg Host.Outcome.next (State.finish_started sound rfl rfl rfl)
    case erase =>
      rw [judges b op, State.judgeErase, if_pos free]
      exact congrArg Host.Outcome.next (State.finish_started sound rfl rfl rfl)
    case held =>
      rw [judges b op, State.judgeErase, if_neg (by rw [blocked]; decide), if_neg (by rw [normal]; decide),
        State.enterHeld_finish run]
      exact ⟨_, rfl, rfl, rfl, rfl, rfl⟩
    case drain =>
      rw [judges b op, State.judgeErase, if_neg (by rw [blocked]; decide), if_pos resetting,
        State.drainBlocked_finish resetting drain sound]
      refine ⟨_, rfl, rfl, fun empty => ?_, fun entries => Store.holdBacks_episode s.now s.store.queue entries s.store⟩
      show (s.store.queue.foldl (fun t e => t.holdBack s.now e.record) s.store).episode = _
      rw [empty]
      rfl
    case resetErase =>
      rw [State.startPending, op]
      exact congrArg Host.Outcome.next (State.finish_started sound rfl rfl rfl)
    case epoch =>
      have starts : s.startPending = { s with store := s.store.startEpochWrite r } := by
        unfold State.startPending
        rw [op]
        dsimp only
        rw [phase]
      rw [starts]
      exact congrArg Host.Outcome.next (State.finish_started sound rfl rfl rfl)
  case records =>
    rw [Store.readReply_records some' reaches count]
    generalize max first oldest = start
    refine ⟨rfl, t.readOne (t.recordsWithin start (start + count - 1)), rfl, fun n low high => ⟨fun bytes some' => ?_,
      fun committed u mem lower upper c candidate found => ?_, Store.readOne_queued⟩⟩
    · obtain ⟨committed, x, stored, number, rfl⟩ | queued := Store.readOne_some some'
      · obtain ⟨u, mem, -, c, candidate, inC⟩ := Store.mem_recordsWithin.1 stored
        exact .inl ⟨committed, u, mem, c, candidate, x, inC, number, rfl⟩
      · exact .inr queued
    · obtain ⟨x, inC, number⟩ := found
      exact Store.readOne_stored committed
        ⟨x, Store.mem_recordsWithin.2 ⟨u, mem, ⟨by omega, low.trans upper⟩, c, candidate, inC⟩, number⟩

end Sys2Proof.Machine
end

section
/-! O21: a matched pair for setting 14 writes the area and begins the epoch reset (R113, R146, R148, R151). -/

namespace Sys2Proof.Machine

open Sys2Proof

/-! ### A pair for setting 14 -/

theorem Bank.matched_of_same {b : Bank} {p q : Proposal} {changes : List Change} (operator : b.operatorSlot = some p)
    (consumer : b.consumerSlot = some q) (pc : p.changes = changes) (qc : q.changes = changes) : b.matched = true := by
  rw [Bank.matched, operator, consumer]
  dsimp only
  rw [pc, qc]
  simp [sameChanges]

theorem Bank.matchedChanges_eq {b : Bank} {p : Proposal} (operator : b.operatorSlot = some p) :
    b.matchedChanges = p.changes := by
  rw [Bank.matchedChanges, operator]
  rfl

theorem changeFor_single (c : Change) : changeFor [c] c.index = some c.value := by
  simp [changeFor]

/-- R146: a pair with setting 14 commits in HELD too. -/
theorem State.commitDue_epoch {s : State} {v : Int} (matched : s.bank.matched = true) (reduction : s.reduction = none)
    (swell : s.swell = none) (builder : s.builder.members = []) (store : s.store.state ≠ .resetting)
    (epoch : changeFor s.bank.matchedChanges 14 = some v) : s.commitDue = true := by
  simp [State.commitDue, matched, reduction, swell, builder, store, epoch]

theorem State.boundaryNotice_epoch {s : State} {v : Int} (due : s.commitDue = true)
    (epoch : changeFor s.bank.matchedChanges 14 = some v) (boundary : Nat) :
    s.boundaryNotice boundary = (s.commitEpoch v.toNat).commitNotices none := by
  rw [State.boundaryNotice, if_pos due]
  dsimp only
  rw [epoch]

/-! ### The epoch reset begins (R113, R151) -/

/-- The phase of a reset whose drain has a queue. -/
def drainPhase (queue : List Entry) : ResetPhase := if queue = [] then .noteWrite else .drain

/-- What the end of the drain leaves of a store that drains. -/
theorem State.endDrain_drainPhase {s : State} (resetting : s.store.state = .resetting)
    (drain : s.store.resetPhase = some .drain) : ∃ writes, s.endDrain = { s with
      store := { s.store with resetPhase := some (drainPhase s.store.queue) },
      bank := { s.bank with areaWrites := writes } } := by
  by_cases empty : s.store.queue = []
  · refine ⟨s.bank.areaWrites ++ [{ note := some (some s.drainNote) }], ?_⟩
    rw [State.endDrain_drained ⟨resetting, drain, empty⟩, drainPhase, if_pos empty]
  · refine ⟨s.bank.areaWrites, (State.endDrain_undrained fun h => empty h.2.2).trans ?_⟩
    rw [drainPhase, if_neg empty, ← drain]

/-- R113: the reset begins with the drain, or past it where no entry is left to drain. -/
theorem State.beginReset_drainPhase (s : State) : ∃ queue episode writes, s.beginReset = { s with
    store := { s.store with
      queue := queue, episode := episode, state := .resetting, resetPhase := some (drainPhase queue),
      releaseCheck := none },
    bank := { s.bank with areaWrites := writes } } := by
  unfold State.beginReset
  dsimp only
  split
  · rw [State.takeOutQueue_eq]
    obtain ⟨writes, ended⟩ := State.endDrain_drainPhase (s := { s with store := { s.store with
      queue := [], episode := _, state := .resetting, resetPhase := some .drain, releaseCheck := none } }) rfl rfl
    exact ⟨_, _, writes, ended⟩
  · obtain ⟨writes, ended⟩ := State.endDrain_drainPhase (s := { s with store := { s.store with
      state := .resetting, resetPhase := some .drain, releaseCheck := none } }) rfl rfl
    exact ⟨_, _, writes, ended⟩

/-- The area once an epoch commit has written it (R151 step 1). -/
def Bank.epochArea (b : Bank) (epoch : Nat) : Area :=
  b.areaAhead.apply { epoch := some epoch, lastApplied := some 0, lastChange := some none, resetMark := some true }

/-- R151 steps 1 to 3. -/
theorem State.commitEpoch_eq (s : State) (epoch : Nat) : ∃ queue episode writes, s.commitEpoch epoch = { s with
    store := { s.store with
      queue := queue, episode := episode, state := .resetting, resetPhase := some (drainPhase queue),
      releaseCheck := none },
    bank := { s.bank with
      area := s.bank.epochArea epoch, areaWrites := writes, operatorSlot := none, consumerSlot := none } } := by
  obtain ⟨queue, episode, writes, begun⟩ := (s.writeEpoch epoch).beginReset_drainPhase
  refine ⟨queue, episode, writes, ?_⟩
  unfold State.commitEpoch
  rw [begun]
  rfl

theorem State.commitNotices_none (s : State) : s.commitNotices none =
    { s with aggregator := (s.commitNotices none).aggregator, estimator := { ring := [], skip := true } } := rfl

/-- The boundary's INTERVAL record is queued or held back as the next interval opens. -/
theorem State.reopened_taken (s : State) (r : Record) : ∃ queue episode op aggregator, s.reopened r = { s with
    store := { s.store with queue := queue, episode := episode, pendingOp := op }, aggregator := aggregator, monitor := { s.monitor with smallStepUsed := false } } :=
  ⟨_, _, _, _, (s.reopened_rest r).trans (by rw [Store.take_rest])⟩

/-- The part as an epoch commit at a boundary leaves it, before the lines are judged. -/
theorem State.reopened_commitEpoch (s : State) (r : Record) (epoch : Nat) : ∃ queue episode op writes aggregator,
    ((s.reopened r).commitEpoch epoch).commitNotices none = { s with
      store := { s.store with
        queue := queue, episode := episode, state := .resetting, resetPhase := some (drainPhase queue),
        releaseCheck := none, pendingOp := op },
      bank := { s.bank with
        area := s.bank.epochArea epoch, areaWrites := writes, operatorSlot := none, consumerSlot := none },
      aggregator := aggregator, estimator := { ring := [], skip := true },
      monitor := { s.monitor with smallStepUsed := false } } := by
  obtain ⟨before, held, op, interval, opened⟩ := s.reopened_taken r
  obtain ⟨queue, episode, writes, begun⟩ := (s.reopened r).commitEpoch_eq epoch
  refine ⟨queue, episode, op, writes, (((s.reopened r).commitEpoch epoch).commitNotices none).aggregator, ?_⟩
  rw [State.commitNotices_none, begun, opened]

/-- Settles O21: the boundary reopens the interval, and the notice commits the epoch into it. -/
theorem epochPairBeginsReset : Obligations.EpochPairBeginsReset := by
  intro s i epoch p q run interval frozen due operator consumer pc qc reduction swell builder store
  have names : changeFor s.bank.matchedChanges 14 = some (epoch : Int) := by
    rw [Bank.matchedChanges_eq operator, pc]
    exact changeFor_single _
  have commits : s.commitDue = true :=
    State.commitDue_epoch (Bank.matched_of_same operator consumer pc qc) reduction swell builder store names
  have does : exec .intervalBoundary s = .next s.takeBoundary := congrArg Host.Outcome.next
    (if_pos (Bool.and_eq_true_iff.2 ⟨State.running_of_run run, State.boundaryReached_of interval frozen due⟩))
  rw [State.takeBoundary_eq interval, State.boundaryNotice_epoch ((s.reopened_commitDue _).trans commits)
    (by rw [State.reopened_bank]; exact names), Int.toNat_natCast] at does
  obtain ⟨queue, episode, op, writes, aggregator, committed⟩ := s.reopened_commitEpoch
    (.interval (i.record s.aggregator.nextBoundary s.monitor.elapsed s.tracker.nominal s.operator.mark s.consumer.mark)) epoch
  rw [committed] at does
  refine ⟨_, does, rfl, rfl, rfl, rfl, rfl, rfl, rfl, rfl, rfl, rfl, State.finish_lineSound _ _, State.finish_lineSound _ _,
    fun empty => ?_, fun entries => ?_⟩
  · exact congrArg some (if_pos empty)
  · exact congrArg some (if_neg entries)

end Sys2Proof.Machine
end

section
/-! O18: every record written to slots reads back well formed and verifies in the chain (R101, R103, R104, R172, R173). -/

namespace Sys2Proof.Machine

open Sys2Proof

/-! ### The bodies fit their slots (R101, R173) -/

theorem changedBytes_length (c : Changed) : (changedBytes c).length = 9 := by simp [changedBytes]

/-- Three changes fit in a slot. -/
theorem changeSlots_length (n : Nat) (changes : List Changed) :
    (changeSlots n changes).length ≤ 32 * ((changes.length + 2) / 3) := by
  induction n generalizing changes with
  | zero => exact Nat.zero_le _
  | succ n ih =>
    cases changes with
    | nil => exact Nat.zero_le _
    | cons c cs =>
      have slot : (padTo 32 (((c :: cs).take 3).flatMap changedBytes)).length = 32 := by
        refine padTo_length _ _ ?_
        rw [length_flatMap_parts changedBytes_length, List.length_take]
        omega
      have later := ih ((c :: cs).drop 3)
      rw [List.length_drop] at later
      rw [changeSlots, List.length_append, slot]
      simp only [List.length_cons] at later ⊢
      omega

theorem settingsBody_length_le (x : SettingsRecord) :
    (settingsBody x).length ≤ 23 + 32 * ((x.changes.length + 2) / 3) := by
  have first : (padTo 23 (leBytes 6 x.stamp.clock ++ leBytes 6 x.stamp.elapsed ++ leBytes 1 x.changes.length
      ++ [packed (bitAt 0 x.restated)])).length = 23 := padTo_length _ _ (by simp)
  rw [settingsBody, List.length_append, first]
  exact Nat.add_le_add_left (changeSlots_length _ _) 23

/-- With its nine bytes of header a record's body fits its slots. -/
theorem Record.body_length_le {r : Record} (h : r.fits) : 9 + r.body.length ≤ 32 * r.slots := by
  cases r with
  | reduction x => exact (congrArg (9 + ·) (reductionBody_length x)).trans_le (Nat.le_of_ble_eq_true rfl)
  | swell x => exact (congrArg (9 + ·) (swellBody_length x)).trans_le (Nat.le_of_ble_eq_true rfl)
  | burst members =>
    cases members with
    | nil => exact absurd h.1 (by decide)
    | cons first rest =>
      obtain ⟨-, few, -⟩ := h
      have length : (Record.burst (first :: rest)).body.length = 27 + 11 * (rest.length + 1) := burstBody_length first rest
      rw [List.length_cons] at few
      rw [length]
      show _ ≤ 32 * (if rest.length + 1 ≤ 5 then 3 else 4)
      split <;> omega
  | interval x => simp [Record.body, intervalBody, voltBytes, Record.slots]
  | gap x => simp [Record.body, gapBody, HeldCounts.toList, Record.slots]
  | settings x =>
    have body : (Record.settings x).body.length ≤ 23 + 32 * ((x.changes.length + 2) / 3) := settingsBody_length_le x
    show _ ≤ 32 * (1 + (x.changes.length + 2) / 3)
    omega
  | timestep x => simp [Record.body, timestepBody, Record.slots]
  | restart x => simp [Record.body, restartBody, Record.slots]
  | epoch x => simp [Record.body, epochBody, Record.slots]

theorem Record.bytes_length {r : Record} (h : r.fits) (number : Nat) (chain : Chain) :
    (r.bytes number chain).length = 32 * r.slots := by
  refine padTo_length _ _ ?_
  rw [List.length_append]
  exact (congrArg (· + r.body.length) (r.header_length number chain)).trans_le (Record.body_length_le h)

/-! ### The header reads back (R172) -/

/-- What follows the header: the body, and 0x00 to the end of the slots. -/
def Record.behind (r : Record) : List Byte := r.body ++ List.replicate (32 * r.slots - (9 + r.body.length)) 0

theorem Record.bytes_eq (r : Record) (number : Nat) (chain : Chain) :
    r.bytes number chain = r.header number chain ++ r.behind := by
  have length : (r.header number chain ++ r.body).length = 9 + r.body.length := by
    rw [List.length_append, Record.header_length]
  show padTo (32 * r.slots) (r.header number chain ++ r.body) = _
  rw [padTo, length, List.append_assoc, Record.behind]

theorem Record.byteAt_first (r : Record) (number : Nat) (chain : Chain) :
    byteAt (r.bytes number chain) 0 = r.firstByte := rfl

/-- The size reads back from the low bits of the first byte. -/
theorem Record.firstByte_size {r : Record} (h : r.fits) : r.firstByte.toNat % 4 + 1 = r.slots := by
  have kind := r.kindCode_le
  have pos := r.slots_pos
  have slots := Record.slots_le h
  have quality := r.quality.bit.toNat_le
  have bit := r.kindBit.toNat_le
  rw [Record.firstByte, packed, BitVec.toNat_ofNat, bitAt_eq, bitAt_eq]
  omega

theorem Record.field_number (r : Record) {number : Nat} (small : number ≤ max32) (chain : Chain) :
    fieldAt (r.bytes number chain) 1 4 = number := by
  have field := fieldAt_append [r.firstByte] (leBytes 4 chain.toNat ++ r.behind) 4 number
  rw [Nat.mod_eq_of_lt (show number < 256 ^ 4 from Nat.lt_succ_of_le small)] at field
  rw [Record.bytes_eq, Record.header, List.append_assoc]
  exact field

theorem Record.field_chain (r : Record) (number : Nat) (chain : Chain) :
    BitVec.ofNat 32 (fieldAt (r.bytes number chain) 5 4) = chain := by
  have field := fieldAt_append ([r.firstByte] ++ leBytes 4 number) r.behind 4 chain.toNat
  have length : ([r.firstByte] ++ leBytes 4 number).length = 5 := by simp
  rw [length, Nat.mod_eq_of_lt (show chain.toNat < 256 ^ 4 from chain.isLt)] at field
  rw [Record.bytes_eq, Record.header, List.append_assoc, field]
  rw [BitVec.ofNat_toNat, BitVec.setWidth_eq]

/-! ### The size that a kind has (R101, R172) -/

theorem Record.firstByte_kind {r : Record} (h : r.fits) : r.firstByte.toNat / 16 = r.kindCode := Record.stored_code h 0 0

/-- The member count stands in bits 3 to 0 of a BURST's count byte. -/
theorem burstBody_count {first : Summary} {rest : List Summary} (few : rest.length + 1 ≤ 8) :
    (byteAt (burstBody (first :: rest)) 25).toNat % 16 = rest.length + 1 := by
  have here : byteAt (burstBody (first :: rest)) 25 = packed (rest.length + 1 + 16 * (worstMember first rest).1) := by
    simp [burstBody, byteAt_behind]
    rfl
  rw [here, packed, BitVec.toNat_ofNat]
  omega

/-- The change count of a SETTINGS record stands in byte 12 of its body. -/
theorem settingsBody_count {x : SettingsRecord} (few : x.changes.length ≤ 8) :
    12 < (settingsBody x).length ∧ (byteAt (settingsBody x) 12).toNat = x.changes.length := by
  have first : ∃ after, settingsBody x =
      leBytes 6 x.stamp.clock ++ leBytes 6 x.stamp.elapsed ++ (leBytes 1 x.changes.length ++ after) := by
    simp only [settingsBody, padTo, List.append_assoc]
    exact ⟨_, rfl⟩
  obtain ⟨after, body⟩ := first
  have field := fieldAt_append (leBytes 6 x.stamp.clock ++ leBytes 6 x.stamp.elapsed) after 1 x.changes.length
  have length : (leBytes 6 x.stamp.clock ++ leBytes 6 x.stamp.elapsed).length = 12 := by simp
  rw [length, ← body, fieldAt_one, Nat.mod_eq_of_lt (by omega)] at field
  refine ⟨?_, field⟩
  rw [body, List.length_append, length, List.length_append, leBytes_length]
  omega

/-- The size that the stored bytes should have for their kind is the record's. -/
theorem Record.sizeForKind_bytes {r : Record} (h : r.fits) (number : Nat) (chain : Chain) :
    sizeForKind (r.bytes number chain) = some r.slots := by
  have kind := Record.firstByte_kind h
  cases r with
  | burst members =>
    cases members with
    | nil => exact absurd h.1 (by decide)
    | cons first rest =>
      obtain ⟨many, few, -⟩ := h
      rw [List.length_cons] at many few
      have length : (Record.burst (first :: rest)).body.length = 27 + 11 * (rest.length + 1) := burstBody_length first rest
      have count := Record.stored_byte (.burst (first :: rest)) number chain (k := 25) (by omega)
      have members : (byteAt ((Record.burst (first :: rest)).bytes number chain) 34).toNat % 16 = rest.length + 1 :=
        (congrArg (fun b : Byte => b.toNat % 16) count).trans (burstBody_count few)
      rw [sizeForKind, Record.byteAt_first, kind]
      simp only [Record.kindCode, members]
      rw [if_pos ⟨many, few⟩]
      rfl
  | settings x =>
    obtain ⟨some', few⟩ := h
    obtain ⟨inside, value⟩ := settingsBody_count few
    have count := Record.stored_byte (.settings x) number chain (k := 12) inside
    have changes : (byteAt ((Record.settings x).bytes number chain) 21).toNat = x.changes.length :=
      (congrArg BitVec.toNat count).trans value
    rw [sizeForKind, Record.byteAt_first, kind]
    simp only [Record.kindCode, changes]
    rw [if_pos ⟨some', few⟩]
    rfl
  | restart x =>
    rw [sizeForKind, Record.byteAt_first, kind, Record.kindCode]
    cases x.kind <;> rfl
  | _ =>
    rw [sizeForKind, Record.byteAt_first, kind]
    rfl

/-- The store reads a record back from the bytes it was written as. -/
theorem Record.storedAt_bytes {r : Record} (h : r.fits) {number : Nat} (pos : 1 ≤ number) (small : number ≤ max32)
    (chain : Chain) : storedAt (r.bytes number chain) = some (r.stored number chain) := by
  have length := Record.bytes_length h number chain
  unfold storedAt
  rw [Record.byteAt_first, Record.firstByte_size h, r.field_number small, r.field_chain,
    if_pos ⟨Record.sizeForKind_bytes h number chain, by omega, length.ge⟩, List.take_of_length_le length.le]
  rfl

/-! ### The chain value (R104) -/

theorem Record.chainedBytes_eq (r : Record) (number : Nat) (chain : Chain) :
    chainedBytes (r.bytes number chain) = [r.firstByte] ++ leBytes 4 number ++ r.behind := by
  have five : ([r.firstByte] ++ leBytes 4 number).length = 5 := by simp
  have nine := r.header_length number chain
  rw [chainedBytes, Record.bytes_eq, ← nine, List.drop_left, Record.header, List.append_assoc _ (leBytes 4 chain.toNat),
    ← five, List.take_left]

/-- A record's own chain field has no part in its chain value. -/
theorem Record.chainOf_bytes (r : Record) (number : Nat) (previous chain : Chain) :
    chainOf previous (r.bytes number chain) = chainOf previous (r.bytes number 0) := by
  rw [chainOf, chainOf, Record.chainedBytes_eq, Record.chainedBytes_eq]

/-- One byte enters the register: 8 bits of the CRC. -/
theorem crcByte_eq (c : Chain) (b : Byte) : crcByte c b =
    crcBit (crcBit (crcBit (crcBit (crcBit (crcBit (crcBit (crcBit (c ^^^ BitVec.ofNat 32 b.toNat)))))))) := by
  rw [BitVec.ofNat_toNat]
  rfl

theorem leBytes_four (n : Nat) : leBytes 4 n = (List.range 4).map fun k => BitVec.ofNat 8 (n / 256 ^ k) := by
  simp [leBytes, List.range_succ, Nat.div_div_eq_div_mul]

/-- Settles O18. -/
theorem recordsReadBack : Obligations.RecordsReadBack := by
  refine ⟨fun r number previous fits pos small => ⟨rfl, Record.bytes_length fits _ _, r.slots_pos, Record.slots_le fits,
    Record.storedAt_bytes fits pos small _, ?verifies⟩, fun previous bytes => ?chain⟩
  case verifies => exact beq_iff_eq.2 (r.chainOf_bytes number previous _)
  case chain =>
    intro shift enter first
    have bits : ∀ c b, crcByte c b = enter c b := fun c b => crcByte_eq c b
    rw [chainOf, crc32, chainedBytes, leBytes_four, ← List.append_assoc, funext fun c => funext (bits c)]

end Sys2Proof.Machine
end

section
/-! O39, first part: the walk of a block finds its records at their slots, and where it stops (R118, R119, R172). -/

namespace Sys2Proof.Machine

open Sys2Proof

/-! ### A block and its slots (R100) -/

/-- Every byte of a slot has a value. -/
def Memory.SlotIs (m : Memory) (b k : Nat) (v : Byte) : Prop := ∀ j, j < 32 → Memory.read m (b * 4096 + k * 32 + j) = v

/-- A record carries the next number, and verifies against the one before (R104). -/
def Stored.RunsOn (x y : Stored) : Prop := y.number = x.number + 1 ∧ chainOf x.chain y.bytes = y.chain

theorem Memory.read_block (m : Memory) {b a : Nat} (inside : a / 4096 = b) :
    Memory.read (Memory.block m b) a = Memory.read m a := by
  refine (Memory.read_filter m (fun x => decide (x / blockBytes = b)) a).trans (if_pos ?_)
  exact decide_eq_true inside

theorem Memory.readBytes_block (m : Memory) {b a n : Nat} (inside : ∀ i, i < n → (a + i) / 4096 = b) :
    Memory.readBytes (Memory.block m b) a n = Memory.readBytes m a n :=
  List.map_congr_left fun i mem => m.read_block (inside i (List.mem_range.1 mem))

/-- A block read alone has the slots of the array. -/
theorem Memory.slot_block (m : Memory) {b k : Nat} (inside : k < 128) :
    Memory.slot (Memory.block m b) b k = Memory.slot m b k := by
  refine m.readBytes_block fun i small => ?_
  rw [slotAddress_eq]
  have : i < 32 := small
  omega

theorem Memory.recordAt_block (m : Memory) (b k : Nat) :
    Memory.recordAt (Memory.block m b) b k = Memory.recordAt m b k := by
  refine congrArg storedAt (m.readBytes_block fun i small => ?_)
  rw [slotAddress_eq]
  have : i < min 128 ((128 - k) * 32) := small
  omega

theorem Memory.slot_all (m : Memory) (b k : Nat) (v : Byte) :
    (Memory.slot m b k).all (· == v) = true ↔ m.SlotIs b k v := by
  simp only [Memory.slot, Memory.readBytes, slotBytes, List.all_map, List.all_eq_true, List.mem_range, Function.comp,
    beq_iff_eq, slotAddress_eq, Memory.SlotIs]

theorem Memory.slotBlank_iff (m : Memory) (b k : Nat) : slotBlank (Memory.slot m b k) = true ↔ m.SlotIs b k 0xFF :=
  m.slot_all b k blankByte

theorem Memory.slotPad_iff (m : Memory) (b k : Nat) : slotPad (Memory.slot m b k) = true ↔ m.SlotIs b k 0 :=
  m.slot_all b k 0

/-- A walk stays in its block. -/
theorem Memory.walkFrom_block (m : Memory) (b fuel slot : Nat) (before : Stored) :
    Memory.walkFrom (Memory.block m b) b fuel slot before = Memory.walkFrom m b fuel slot before := by
  induction fuel generalizing slot before with
  | zero => rfl
  | succ fuel ih =>
    unfold Memory.walkFrom
    by_cases past : blockSlots ≤ slot
    · rw [if_pos past, if_pos past]
    · rw [if_neg past, if_neg past, m.slot_block (not_le.1 past), m.recordAt_block]
      simp only [ih]

/-- The candidate that a block is, read from the whole array (R118). -/
theorem Memory.candidate_eq (m : Memory) (b : Nat) : Memory.candidate m b = (Memory.recordAt m b 0).map fun first =>
    let later := Memory.walkFrom m b 128 (first.bytes.length / 32) first
    { block := b, first := first, last := later.1.getLast?.getD first, records := first :: later.1, stop := later.2 } := by
  unfold Memory.candidate Memory.walkBlock
  dsimp only
  rw [m.recordAt_block]
  cases Memory.recordAt m b 0 with
  | none => rfl
  | some first =>
    dsimp only [Option.map_some]
    rw [m.walkFrom_block]
    rfl

/-! ### A record in the array (R172) -/

/-- A record takes at least one slot, and no more bytes than there are. -/
theorem storedAt_size {bytes : List Byte} {x : Stored} (h : storedAt bytes = some x) :
    1 ≤ x.bytes.length / 32 ∧ 32 * (x.bytes.length / 32) ≤ bytes.length := by
  unfold storedAt at h
  dsimp only at h
  split at h
  case isTrue fits =>
    cases h
    have length : (bytes.take (32 * ((byteAt bytes 0).toNat % 4 + 1))).length = 32 * ((byteAt bytes 0).toNat % 4 + 1) :=
      List.length_take_of_le fits.2.2
    rw [length]
    have := fits.2.2
    omega
  case isFalse => cases h

/-- The kind of a record is none of an erased byte's (R172). -/
theorem storedAt_first {bytes : List Byte} {x : Stored} (h : storedAt bytes = some x) : byteAt bytes 0 ≠ 0xFF := by
  intro blank
  have kind : sizeForKind bytes = none := by rw [sizeForKind, blank]; rfl
  rw [storedAt, kind] at h
  simp at h

/-- A record at a slot lies in its block. -/
theorem Memory.recordAt_size {m : Memory} {b k : Nat} {x : Stored} (h : Memory.recordAt m b k = some x) :
    1 ≤ x.bytes.length / 32 ∧ k + x.bytes.length / 32 ≤ 128 := by
  obtain ⟨some', fits⟩ := storedAt_size h
  have length : (Memory.readBytes m (slotAddress b k) (min 128 ((blockSlots - k) * slotBytes))).length =
      min 128 ((128 - k) * 32) := by
    rw [Memory.readBytes, List.length_map, List.length_range]
    rfl
  rw [length] at fits
  omega

theorem Memory.read_of_recordAt {m : Memory} {b : Nat} {x : Stored} (h : Memory.recordAt m b 0 = some x) :
    Memory.read m (b * 4096) ≠ 0xFF := by
  have first := storedAt_first h
  have here : byteAt (Memory.readBytes m (slotAddress b 0) (min 128 ((blockSlots - 0) * slotBytes))) 0 =
      Memory.read m (slotAddress b 0 + 0) := rfl
  rwa [here, slotAddress_eq, Nat.zero_mul, Nat.add_zero] at first

/-! ### The walk (R118, R119) -/

/-- Records stand at slots of a block, with PAD between them and after the last, and each runs on from the one before. -/
structure Memory.Laid (m : Memory) (b : Nat) (records : List Stored) (at' : Nat → Nat) (stop : Nat) : Prop where
  lastAt : at' records.length = stop
  inside : stop ≤ 128
  each : ∀ k x, records[k]? = some x → Memory.recordAt m b (at' k) = some x ∧ at' k + x.bytes.length / 32 ≤ at' (k + 1)
    ∧ (∀ j, at' k + x.bytes.length / 32 ≤ j → j < at' (k + 1) → m.SlotIs b j 0)
    ∧ ∀ y, records[k + 1]? = some y → x.RunsOn y

/-- Where a walk stops after a last record, and why (R119). -/
structure Memory.StopsAt (m : Memory) (b : Nat) (last : Stored) (stop : Nat) (e : WalkEnd) : Prop where
  past : stop = 128 → e = .blockEnd
  blank : stop < 128 → m.SlotIs b stop 0xFF → e = .blank stop
  torn : stop < 128 → ¬ m.SlotIs b stop 0xFF → e = .torn ∧ ¬ m.SlotIs b stop 0
    ∧ ∀ y, Memory.recordAt m b stop = some y → ¬ last.RunsOn y

section
variable {m : Memory} {b : Nat}

/-- One record alone, with PAD up to the stop. -/
theorem Memory.Laid.single {x : Stored} {at0 stop : Nat} (record : Memory.recordAt m b at0 = some x)
    (after : at0 + x.bytes.length / 32 ≤ stop) (pads : ∀ j, at0 + x.bytes.length / 32 ≤ j → j < stop → m.SlotIs b j 0)
    (inside : stop ≤ 128) : m.Laid b [x] (fun k => if k = 0 then at0 else stop) stop where
  lastAt := rfl
  inside := inside
  each k y at' := by
    obtain rfl : k = 0 := by
      have := (List.getElem?_eq_some_iff.1 at').1
      simpa using this
    obtain rfl : x = y := by simpa using at'
    exact ⟨record, after, pads, fun z none' => by simp at none'⟩

/-- A record before others that are laid, with PAD up to the first of them. -/
theorem Memory.Laid.cons {x y : Stored} {rest : List Stored} {at' : Nat → Nat} {at0 stop : Nat}
    (laid : m.Laid b (y :: rest) at' stop) (record : Memory.recordAt m b at0 = some x)
    (after : at0 + x.bytes.length / 32 ≤ at' 0) (pads : ∀ j, at0 + x.bytes.length / 32 ≤ j → j < at' 0 → m.SlotIs b j 0)
    (runs : x.RunsOn y) : m.Laid b (x :: y :: rest) (fun k => if k = 0 then at0 else at' (k - 1)) stop where
  lastAt := laid.lastAt
  inside := laid.inside
  each k z found := by
    cases k with
    | zero =>
      obtain rfl : x = z := by simpa using found
      refine ⟨record, after, pads, fun w next => ?_⟩
      obtain rfl : y = w := by simpa using next
      exact runs
    | succ k => exact laid.each k z found

/-- The walk from a slot on, after a record whose slots and PAD reach to there: the records it accepts are laid behind that
one, and it stops where R119 says. -/
theorem Memory.walkFrom_laid (fuel : Nat) {slot at0 : Nat} {before : Stored} (reaches : 129 ≤ slot + fuel)
    (inside : slot ≤ 128) (record : Memory.recordAt m b at0 = some before) (after : at0 + before.bytes.length / 32 ≤ slot)
    (pads : ∀ j, at0 + before.bytes.length / 32 ≤ j → j < slot → m.SlotIs b j 0) :
    ∃ at' stop, at' 0 = at0 ∧ m.Laid b (before :: (Memory.walkFrom m b fuel slot before).1) at' stop
      ∧ m.StopsAt b ((Memory.walkFrom m b fuel slot before).1.getLast?.getD before) stop
          (Memory.walkFrom m b fuel slot before).2 := by
  induction fuel generalizing slot at0 before with
  | zero => omega
  | succ fuel ih =>
    have alone := Memory.Laid.single record after pads inside
    unfold Memory.walkFrom
    by_cases past : blockSlots ≤ slot
    · rw [if_pos past]
      obtain rfl : slot = 128 := le_antisymm inside past
      exact ⟨_, 128, rfl, alone, fun _ => rfl, fun low => absurd low (lt_irrefl _), fun low => absurd low (lt_irrefl _)⟩
    rw [if_neg past]
    have low : slot < 128 := not_le.1 past
    have ne : slot ≠ 128 := low.ne
    dsimp only
    by_cases blank : slotBlank (Memory.slot m b slot) = true
    · rw [if_pos blank]
      exact ⟨_, slot, rfl, alone, fun filled => absurd filled ne, fun _ _ => rfl,
        fun _ written => absurd ((m.slotBlank_iff b slot).1 blank) written⟩
    rw [if_neg blank]
    by_cases pad : slotPad (Memory.slot m b slot) = true
    · rw [if_pos pad]
      refine ih (by omega) low record (by omega) fun j from' below => ?_
      obtain earlier | rfl := Nat.lt_succ_iff_lt_or_eq.1 below
      · exact pads j from' earlier
      · exact (m.slotPad_iff b j).1 pad
    rw [if_neg pad]
    have torn (refused : ∀ y, Memory.recordAt m b slot = some y → ¬ before.RunsOn y) : m.StopsAt b before slot .torn :=
      ⟨fun filled => absurd filled ne, fun _ erased => absurd ((m.slotBlank_iff b slot).2 erased) blank,
        fun _ _ => ⟨rfl, fun padded => pad ((m.slotPad_iff b slot).2 padded), refused⟩⟩
    cases found : Memory.recordAt m b slot with
    | none => exact ⟨_, slot, rfl, alone, torn fun y some' => by rw [found] at some'; cases some'⟩
    | some r =>
      dsimp only
      have runs : (r.number = before.number + 1 ∧ r.chainsFrom before.chain = true) ↔ before.RunsOn r :=
        and_congr Iff.rfl beq_iff_eq
      by_cases next : before.RunsOn r
      · rw [if_pos (runs.2 next)]
        obtain ⟨size, fits⟩ := Memory.recordAt_size found
        obtain ⟨at', stop, first, laid, stops⟩ := ih (slot := slot + r.bytes.length / slotBytes)
          (show 129 ≤ slot + r.bytes.length / 32 + fuel by omega) fits found le_rfl
          fun j from' below => absurd below (not_lt.2 from')
        refine ⟨_, stop, rfl, laid.cons record (by rw [first]; exact after) (by rw [first]; exact pads) next, ?_⟩
        rw [List.getLast?_cons]
        exact stops
      · rw [if_neg (mt runs.1 next)]
        refine ⟨_, slot, rfl, alone, torn fun y some' => ?_⟩
        rw [found] at some'
        cases some'
        exact next

end

theorem Memory.StopsAt.writeSlot {m : Memory} {b stop : Nat} {last : Stored} {e : WalkEnd} (h : m.StopsAt b last stop e) :
    (stop = 128 → e.writeSlot = 128) ∧ (stop < 128 → m.SlotIs b stop 0xFF → e.writeSlot = stop)
      ∧ (stop < 128 → ¬ m.SlotIs b stop 0xFF → e.writeSlot = 128) :=
  ⟨fun past => by rw [h.past past]; rfl, fun low blank => by rw [h.blank low blank]; rfl,
    fun low written => by rw [(h.torn low written).1]; rfl⟩

/-! ### Candidates (R118) -/

/-- A byte of a block is not blank. -/
def Memory.Written (m : Memory) (b : Nat) : Prop := ∃ a, a / 4096 = b ∧ Memory.read m a ≠ 0xFF

/-- What a candidate is: a block whose first slot holds a record, with the records that its walk finds. -/
theorem Memory.candidate_laid {m : Memory} {b : Nat} {c : Candidate} (h : Memory.candidate m b = some c) :
    c.block = b ∧ m.Written b ∧ Memory.recordAt m b 0 = some c.first ∧ c.records.head? = some c.first
      ∧ c.records.getLast? = some c.last
      ∧ ∃ at' stop, at' 0 = 0 ∧ m.Laid b c.records at' stop ∧ m.StopsAt b c.last stop c.stop := by
  rw [Memory.candidate_eq] at h
  obtain ⟨first, record, rfl⟩ := Option.map_eq_some_iff.1 h
  obtain ⟨size, fits⟩ := Memory.recordAt_size record
  have laid := Memory.walkFrom_laid 128 (slot := first.bytes.length / 32) (at0 := 0) (by omega) (by omega) record
    (Nat.zero_add _).le fun j from' below => absurd below (by omega)
  refine ⟨rfl, ⟨b * 4096, by omega, Memory.read_of_recordAt record⟩, record, rfl, ?_, laid⟩
  exact List.getLast?_cons

theorem Memory.candidate_of_recordAt {m : Memory} {b : Nat} {x : Stored} (h : Memory.recordAt m b 0 = some x) :
    ∃ c, Memory.candidate m b = some c := by
  rw [Memory.candidate_eq, h]
  exact ⟨_, rfl⟩

end Sys2Proof.Machine
end

section
/-! O39, second part: the candidates that confirm, the newest of them, and the walk back over the stored blocks (R118). -/

namespace Sys2Proof.Machine

open Sys2Proof

/-! ### The blocks that are not blank -/

theorem Memory.read_listed {bound a : Nat} {v : Byte} {m : Memory} (wf : Memory.wfAbove bound m = true)
    (listed : (a, v) ∈ m) : Memory.read m a = v ∧ v ≠ blankByte ∧ bound ≤ a := by
  induction m generalizing bound with
  | nil => cases listed
  | cons cell rest ih =>
    obtain ⟨low, written, later⟩ := Memory.wfAbove_cons.1 wf
    obtain here | there := List.mem_cons.1 listed
    · subst here
      exact ⟨if_pos rfl, written, low⟩
    · obtain ⟨read, nonblank, above⟩ := ih later there
      exact ⟨(if_neg (by omega)).trans read, nonblank, by omega⟩

theorem Memory.listed_of_read {m : Memory} {a : Nat} (h : Memory.read m a ≠ blankByte) : ∃ v, (a, v) ∈ m := by
  induction m with
  | nil => exact absurd rfl h
  | cons cell rest ih =>
    obtain ⟨x, v⟩ := cell
    by_cases here : x = a
    · exact ⟨v, here ▸ List.mem_cons_self⟩
    · rw [Memory.read, if_neg here] at h
      obtain ⟨w, listed⟩ := ih h
      exact ⟨w, List.mem_cons_of_mem _ listed⟩

/-- The blocks that the scan looks at are those with a byte that is not blank (R118). -/
theorem Memory.mem_candidates {m : Memory} (wf : Memory.wf m = true) (b : Nat) : b ∈ Memory.candidates m ↔ m.Written b := by
  rw [Memory.candidates, List.mem_dedup, List.mem_map]
  constructor
  · rintro ⟨⟨a, v⟩, listed, rfl⟩
    obtain ⟨read, written, -⟩ := Memory.read_listed wf listed
    exact ⟨a, rfl, read.trans_ne written⟩
  · rintro ⟨a, rfl, written⟩
    obtain ⟨v, listed⟩ := Memory.listed_of_read written
    exact ⟨(a, v), listed, rfl⟩

section
variable {m : Memory}

theorem Memory.candidate_block {b : Nat} {c : Candidate} (h : Memory.candidate m b = some c) : c.block = b :=
  (Memory.candidate_laid h).1

/-- The candidates tested are those of every block. -/
theorem Memory.mem_tested (wf : Memory.wf m = true) (c : Candidate) :
    c ∈ Memory.tested m ↔ Memory.candidate m c.block = some c := by
  rw [Memory.tested, List.mem_filterMap]
  constructor
  · rintro ⟨b, -, found⟩
    rwa [Memory.candidate_block found]
  · intro found
    exact ⟨c.block, (Memory.mem_candidates wf _).2 (Memory.candidate_laid found).2.1, found⟩

theorem candidateOf_tested (wf : Memory.wf m = true) (b : Nat) :
    candidateOf (Memory.tested m) b = Memory.candidate m b := by
  unfold candidateOf
  cases found : Memory.candidate m b with
  | none =>
    refine List.find?_eq_none.2 fun c mem here => ?_
    have block : c.block = b := by simpa using here
    have := (Memory.mem_tested wf c).1 mem
    rw [block, found] at this
    cases this
  | some c =>
    have block := Memory.candidate_block found
    have mem : c ∈ Memory.tested m := (Memory.mem_tested wf c).2 (by rw [block]; exact found)
    cases other : (Memory.tested m).find? fun d => d.block == b with
    | none => exact absurd (by simpa using block) (List.find?_eq_none.1 other c mem)
    | some d =>
      have at' : d.block = b := by simpa using List.find?_some other
      have here := (Memory.mem_tested wf d).1 (List.mem_of_find?_eq_some other)
      rw [at', found] at here
      exact here.symm

/-! ### Confirmed candidates -/

/-- A candidate lies right before another, and its last number right before that one's first. -/
def Candidate.Precedes (d c : Candidate) : Prop :=
  d.block = (c.block + 1023) % 1024 ∧ d.last.number + 1 = c.first.number

/-- R118: an EPOCH record that verifies from the seed 0, or the block before, confirms a candidate. -/
def Memory.Confirmed (m : Memory) (c : Candidate) : Prop :=
  (c.first.code = 11 ∧ chainOf 0 c.first.bytes = c.first.chain)
    ∨ ∃ d, Memory.candidate m ((c.block + 1023) % 1024) = some d ∧ d.Precedes c
        ∧ chainOf d.last.chain c.first.bytes = c.first.chain

theorem confirmed_tested (wf : Memory.wf m = true) (c : Candidate) :
    confirmed (Memory.tested m) c = true ↔ m.Confirmed c := by
  have before : candidateOf (Memory.tested m) (previousBlock c.block) = Memory.candidate m ((c.block + 1023) % 1024) :=
    candidateOf_tested wf _
  unfold confirmed
  rw [Bool.or_eq_true, before, Bool.and_eq_true, decide_eq_true_eq]
  refine or_congr (and_congr Iff.rfl beq_iff_eq) ?_
  cases found : Memory.candidate m ((c.block + 1023) % 1024) with
  | none => simp
  | some d =>
    have block := Memory.candidate_block found
    rw [Bool.and_eq_true, decide_eq_true_eq]
    constructor
    · rintro ⟨numbers, chain⟩
      exact ⟨d, rfl, ⟨block, numbers⟩, beq_iff_eq.1 chain⟩
    · rintro ⟨e, same, ⟨-, numbers⟩, chain⟩
      cases same
      exact ⟨numbers, beq_iff_eq.2 chain⟩

/-! ### The order of the tests -/

theorem testedBefore_le {a b : Candidate} (h : testedBefore a b = true) : b.first.number ≤ a.first.number := by
  unfold testedBefore at h
  rw [Bool.or_eq_true, Bool.and_eq_true, decide_eq_true_eq, decide_eq_true_eq] at h
  obtain less | ⟨same, -⟩ := h
  · exact less.le
  · exact same.ge

theorem not_testedBefore_le {a b : Candidate} (h : ¬ testedBefore a b = true) : a.first.number ≤ b.first.number := by
  by_contra less
  exact h (by simp [testedBefore, not_le.1 less])

theorem mem_putCandidate (c x : Candidate) (cs : List Candidate) : x ∈ putCandidate c cs ↔ x = c ∨ x ∈ cs := by
  induction cs with
  | nil => exact List.mem_cons
  | cons d rest ih =>
    unfold putCandidate
    split
    · exact List.mem_cons
    · rw [List.mem_cons, ih, List.mem_cons]
      exact or_left_comm

theorem mem_testOrder (x : Candidate) (cs : List Candidate) : x ∈ testOrder cs ↔ x ∈ cs := by
  induction cs with
  | nil => exact Iff.rfl
  | cons c rest ih =>
    rw [testOrder, List.foldr_cons, mem_putCandidate, ← testOrder, ih, List.mem_cons]

/-- The higher first number stands first. -/
def FirstsFall (cs : List Candidate) : Prop := cs.Pairwise fun a b => b.first.number ≤ a.first.number

theorem putCandidate_falls (c : Candidate) {cs : List Candidate} (h : FirstsFall cs) : FirstsFall (putCandidate c cs) := by
  induction cs with
  | nil => exact List.pairwise_singleton _ _
  | cons d rest ih =>
    obtain ⟨highest, later⟩ := List.pairwise_cons.1 h
    unfold putCandidate
    split
    case isTrue first =>
      refine List.pairwise_cons.2 ⟨fun x mem => ?_, h⟩
      obtain rfl | mem := List.mem_cons.1 mem
      · exact testedBefore_le first
      · exact (highest x mem).trans (testedBefore_le first)
    case isFalse after =>
      refine List.pairwise_cons.2 ⟨fun x mem => ?_, ih later⟩
      obtain rfl | mem := (mem_putCandidate c x rest).1 mem
      · exact not_testedBefore_le after
      · exact highest x mem

theorem testOrder_falls (cs : List Candidate) : FirstsFall (testOrder cs) := by
  induction cs with
  | nil => exact List.Pairwise.nil
  | cons c rest ih => exact putCandidate_falls c ih

/-- The first candidate of a falling list that passes a test has the highest first number of all that pass. -/
theorem FirstsFall.find_highest {cs : List Candidate} (falls : FirstsFall cs) {test : Candidate → Bool} {c d : Candidate}
    (found : cs.find? test = some c) (mem : d ∈ cs) (passes : test d = true) : d.first.number ≤ c.first.number := by
  induction cs with
  | nil => cases mem
  | cons x rest ih =>
    obtain ⟨highest, later⟩ := List.pairwise_cons.1 falls
    by_cases here : test x = true
    · rw [List.find?_cons_of_pos here, Option.some.injEq] at found
      subst found
      obtain rfl | mem := List.mem_cons.1 mem
      · exact le_rfl
      · exact highest d mem
    · rw [List.find?_cons_of_neg here] at found
      obtain rfl | mem := List.mem_cons.1 mem
      · exact absurd passes here
      · exact ih later found mem

/-- The newest block is confirmed, and no confirmed candidate has a higher first number (R118). -/
theorem newestCandidate_some (wf : Memory.wf m = true) {c : Candidate} (h : newestCandidate (Memory.tested m) = some c) :
    Memory.candidate m c.block = some c ∧ m.Confirmed c
      ∧ ∀ b d, Memory.candidate m b = some d → m.Confirmed d → d.first.number ≤ c.first.number := by
  refine ⟨(Memory.mem_tested wf c).1 ((mem_testOrder _ _).1 (List.mem_of_find?_eq_some h)),
    (confirmed_tested wf c).1 (List.find?_some h), fun b d found passes => ?_⟩
  refine (testOrder_falls _).find_highest h ((mem_testOrder _ _).2 ((Memory.mem_tested wf d).2 ?_))
    ((confirmed_tested wf d).2 passes)
  rwa [Memory.candidate_block found]

theorem newestCandidate_none (wf : Memory.wf m = true) :
    newestCandidate (Memory.tested m) = none ↔ ∀ b c, Memory.candidate m b = some c → ¬ m.Confirmed c := by
  rw [newestCandidate, List.find?_eq_none]
  constructor
  · intro none' b c found passes
    refine none' c ((mem_testOrder _ _).2 ((Memory.mem_tested wf c).2 ?_)) ((confirmed_tested wf c).2 passes)
    rwa [Memory.candidate_block found]
  · intro none' c mem passes
    exact none' _ c ((Memory.mem_tested wf c).1 ((mem_testOrder _ _).1 mem)) ((confirmed_tested wf c).1 passes)

/-! ### The walk back (R118) -/

/-- The walk back begins at a block and takes, one after another, the candidate that precedes the last. -/
structure Memory.WalksBack (m : Memory) (c : Candidate) (walk : List Candidate) : Prop where
  head : walk.head? = some c
  candidates : ∀ d ∈ walk, Memory.candidate m d.block = some d
  precede : ∀ k x y, walk[k]? = some x → walk[k + 1]? = some y → y.Precedes x

theorem Memory.WalksBack.single {c : Candidate} (candidate : Memory.candidate m c.block = some c) : m.WalksBack c [c] where
  head := rfl
  candidates d mem := by rw [List.mem_singleton.1 mem]; exact candidate
  precede k x y _ second := by simp at second

/-- The walk back over a canonical array, and why it ends: the next block is no candidate, is the newest, or does not
precede; or its bound is spent. -/
theorem walkBack_walks (wf : Memory.wf m = true) (newest fuel : Nat) {c : Candidate}
    (candidate : Memory.candidate m c.block = some c) :
    m.WalksBack c (walkBack (Memory.tested m) newest fuel c)
      ∧ ((walkBack (Memory.tested m) newest fuel c).length = fuel + 1
        ∨ ∀ x d, (walkBack (Memory.tested m) newest fuel c).getLast? = some x →
            Memory.candidate m ((x.block + 1023) % 1024) = some d → d.block = newest ∨ ¬ d.Precedes x) := by
  induction fuel generalizing c with
  | zero => exact ⟨.single candidate, .inl rfl⟩
  | succ fuel ih =>
    have single := Memory.WalksBack.single candidate
    have before : candidateOf (Memory.tested m) (previousBlock c.block) = Memory.candidate m ((c.block + 1023) % 1024) :=
      candidateOf_tested wf _
    unfold walkBack
    rw [before]
    cases found : Memory.candidate m ((c.block + 1023) % 1024) with
    | none =>
      refine ⟨single, .inr fun x d last at' => ?_⟩
      obtain rfl : c = x := by simpa using last
      rw [found] at at'
      cases at'
    | some d =>
      have block := Memory.candidate_block found
      dsimp only
      split
      case isTrue goesOn =>
        obtain ⟨-, numbers⟩ := goesOn
        have here : Memory.candidate m d.block = some d := by rw [block]; exact found
        obtain ⟨⟨head, candidates, precede⟩, ends⟩ := ih here
        refine ⟨⟨rfl, fun e mem => ?_, fun k x y first second => ?_⟩, ?_⟩
        · obtain rfl | mem := List.mem_cons.1 mem
          · exact candidate
          · exact candidates e mem
        · cases k with
          | zero =>
            obtain rfl : c = x := by simpa using first
            rw [List.getElem?_cons_succ, ← List.head?_eq_getElem?, head, Option.some.injEq] at second
            subst second
            exact ⟨block, numbers⟩
          | succ k => exact precede k x y first second
        · refine ends.imp (fun length => by rw [List.length_cons, length]) fun stops x e last => ?_
          refine stops x e ?_
          rw [List.getLast?_cons] at last
          rw [← last]
          cases tail : (walkBack (Memory.tested m) newest fuel d).getLast? with
          | none => rw [List.getLast?_eq_none_iff] at tail; rw [tail] at head; cases head
          | some z => rfl
      case isFalse stops =>
        refine ⟨single, .inr fun x e last at' => ?_⟩
        obtain rfl : c = x := by simpa using last
        rw [found, Option.some.injEq] at at'
        subst at'
        by_cases same : d.block = newest
        · exact .inl same
        · exact .inr fun precedes => stops ⟨same, precedes.2⟩

/-- A candidate's numbers do not fall. -/
theorem Memory.Laid.number {b : Nat} {records : List Stored} {at' : Nat → Nat} {stop : Nat} (laid : m.Laid b records at' stop)
    {k : Nat} {x y : Stored} (first : records[0]? = some x) (at'' : records[k]? = some y) : y.number = x.number + k := by
  induction k generalizing y with
  | zero =>
    rw [first, Option.some.injEq] at at''
    rw [at'']
    rfl
  | succ k ih =>
    have inside := (List.getElem?_eq_some_iff.1 at'').1
    have earlier : records[k]? = some records[k] := List.getElem?_eq_getElem (by omega)
    obtain ⟨-, -, -, runs⟩ := laid.each k _ earlier
    rw [(runs y at'').1, ih earlier, Nat.add_assoc]

theorem Memory.candidate_numbers {b : Nat} {c : Candidate} (h : Memory.candidate m b = some c) :
    c.first.number ≤ c.last.number := by
  obtain ⟨-, -, -, head, last, at', stop, -, laid, -⟩ := Memory.candidate_laid h
  rw [List.head?_eq_getElem?] at head
  rw [List.getLast?_eq_getElem?] at last
  rw [laid.number head last]
  exact Nat.le_add_right _ _

section
variable {c : Candidate} {walk : List Candidate}

/-- Going back the first numbers fall. -/
theorem Memory.WalksBack.numbers (walks : m.WalksBack c walk) {i k : Nat} {x y : Candidate} (later : walk[i]? = some x)
    (earlier : walk[i + k]? = some y) : y.first.number + k ≤ x.first.number := by
  induction k generalizing y with
  | zero =>
    rw [Nat.add_zero, later, Option.some.injEq] at earlier
    rw [earlier]
    rfl
  | succ k ih =>
    have inside := (List.getElem?_eq_some_iff.1 earlier).1
    have between : walk[i + k]? = some walk[i + k] := List.getElem?_eq_getElem (by omega)
    have falls := ih between
    have precedes := (walks.precede (i + k) _ y between earlier).2
    have rises := Memory.candidate_numbers (walks.candidates y (List.mem_of_getElem? earlier))
    omega

/-- Going back the blocks run down in circular order. -/
theorem Memory.WalksBack.blocks (walks : m.WalksBack c walk) {k : Nat} {x : Candidate} (at' : walk[k]? = some x)
    (later : 1 ≤ k) : x.block = (c.block + 1023 * k) % 1024 := by
  induction k generalizing x with
  | zero => omega
  | succ k ih =>
    have inside := (List.getElem?_eq_some_iff.1 at').1
    have before : walk[k]? = some walk[k] := List.getElem?_eq_getElem (by omega)
    have block := (walks.precede k _ x before at').1
    by_cases first : k = 0
    · subst first
      rw [← List.head?_eq_getElem?, walks.head, Option.some.injEq] at before
      rw [block, ← before]
    · rw [block, ih before (by omega)]
      omega

/-- A walk back that has spent its bound has come round: the next block is one it has passed, whose numbers lie above. -/
theorem Memory.WalksBack.comes_round (walks : m.WalksBack c walk) (length : walk.length = 1025) {x d : Candidate}
    (last : walk.getLast? = some x) (next : Memory.candidate m ((x.block + 1023) % 1024) = some d) : ¬ d.Precedes x := by
  rw [List.getLast?_eq_getElem?, length] at last
  have second : walk[1]? = some walk[1] := List.getElem?_eq_getElem (by omega)
  have here := walks.candidates _ (List.getElem_mem (show 1 < walk.length by omega))
  have round : (x.block + 1023) % 1024 = walk[1].block := by
    rw [walks.blocks last (by decide), walks.blocks second le_rfl]
    omega
  rw [round, here, Option.some.injEq] at next
  subst next
  rintro ⟨-, numbers⟩
  have falls := walks.numbers (i := 1) (k := 1023) second last
  have rises := Memory.candidate_numbers here
  omega

end

/-- The stored blocks from the newest back, and why the walk ends (R118). -/
theorem storedBlocks_some (wf : Memory.wf m = true) {c : Candidate} (newest : newestCandidate (Memory.tested m) = some c) :
    ∃ walk, storedBlocks (Memory.tested m) = walk.reverse ∧ m.WalksBack c walk ∧ ∀ x d, walk.getLast? = some x →
      Memory.candidate m ((x.block + 1023) % 1024) = some d → d.block = c.block ∨ ¬ d.Precedes x := by
  obtain ⟨walks, ends⟩ := walkBack_walks wf c.block blockCount (newestCandidate_some wf newest).1
  refine ⟨_, by rw [storedBlocks, newest], walks, ?_⟩
  obtain spent | stops := ends
  · exact fun x d last next => .inr (walks.comes_round spent last next)
  · exact stops

theorem storedBlocks_eq_nil (wf : Memory.wf m = true) :
    storedBlocks (Memory.tested m) = [] ↔ ∀ b c, Memory.candidate m b = some c → ¬ m.Confirmed c := by
  rw [← newestCandidate_none wf]
  cases newest : newestCandidate (Memory.tested m) with
  | none => simp [storedBlocks, newest]
  | some c =>
    obtain ⟨walk, stored, walks, -⟩ := storedBlocks_some wf newest
    have head := walks.head
    rw [stored]
    simp only [List.reverse_eq_nil_iff, reduceCtorEq, iff_false]
    rintro rfl
    cases head

theorem storedBlocks_candidate (wf : Memory.wf m = true) {c : Candidate} (mem : c ∈ storedBlocks (Memory.tested m)) :
    Memory.candidate m c.block = some c := by
  cases newest : newestCandidate (Memory.tested m) with
  | none => simp [storedBlocks, newest] at mem
  | some n =>
    obtain ⟨walk, stored, walks, -⟩ := storedBlocks_some wf newest
    rw [stored] at mem
    exact walks.candidates c (List.mem_reverse.1 mem)

/-- The stored blocks lie one after another in circular order, with numbers that run on. -/
theorem storedBlocks_precede (wf : Memory.wf m = true) {k : Nat} {x y : Candidate}
    (first : (storedBlocks (Memory.tested m))[k]? = some x) (second : (storedBlocks (Memory.tested m))[k + 1]? = some y) :
    x.Precedes y := by
  cases newest : newestCandidate (Memory.tested m) with
  | none => simp [storedBlocks, newest] at first
  | some n =>
    obtain ⟨walk, stored, walks, -⟩ := storedBlocks_some wf newest
    rw [stored] at first second
    have inside : k + 1 < walk.length := by simpa using (List.getElem?_eq_some_iff.1 second).1
    rw [List.getElem?_reverse (by omega)] at first second
    refine walks.precede (walk.length - 1 - (k + 1)) y x second ?_
    rw [← first]
    congr 1
    omega

/-- The newest of the stored blocks. -/
theorem storedBlocks_getLast? (wf : Memory.wf m = true) :
    (storedBlocks (Memory.tested m)).getLast? = newestCandidate (Memory.tested m) := by
  cases newest : newestCandidate (Memory.tested m) with
  | none => simp [storedBlocks, newest]
  | some c =>
    obtain ⟨walk, stored, walks, -⟩ := storedBlocks_some wf newest
    rw [stored, List.getLast?_reverse, walks.head]

/-! ### Blocks damaged (R118, R119) -/

theorem Memory.mem_damaged (wf : Memory.wf m = true) (b : Nat) :
    b ∈ Memory.damaged m ↔ m.Written b ∧ ∀ c ∈ storedBlocks (Memory.tested m), c.block ≠ b := by
  rw [Memory.damaged, List.mem_filter, Memory.mem_candidates wf]
  simp

theorem ScanResult.tornFound_iff (r : ScanResult) :
    r.tornFound = true ↔ r.damaged ≠ [] ∨ ∃ c, r.stored.getLast? = some c ∧ c.stop = .torn := by
  unfold ScanResult.tornFound ScanResult.newest
  rw [Bool.or_eq_true]
  refine or_congr (by simp) ?_
  cases r.stored.getLast? <;> simp

end

/-- Settles O39: a candidate is laid as `Memory.candidate_laid` says, and the stored blocks are the walk back from the newest
candidate confirmed. -/
theorem scanFindsTheStoredBlocks : Obligations.ScanFindsTheStoredBlocks := by
  intro m wf r before written follows confirms all runsOn
  refine ⟨fun b x record => Memory.candidate_of_recordAt record, fun b c found => ?candidate, fun c mem => ?stored,
    storedBlocks_eq_nil wf, fun c last => ?newest, fun k x y first second => ?runOn,
    fun c newest d head last next => ?stops, Memory.mem_damaged wf, r.tornFound_iff⟩
  case candidate =>
    obtain ⟨block, nonblank, record, head, last, at', stop, first, laid, stops⟩ := Memory.candidate_laid found
    obtain ⟨past, low, torn⟩ := stops.writeSlot
    refine ⟨block, nonblank, record, head, last, at', stop, first, laid.lastAt, laid.inside, laid.each,
      fun filled => ⟨stops.past filled, past filled⟩, fun inside blank => ⟨stops.blank inside blank, low inside blank⟩,
      fun inside written => ?_⟩
    obtain ⟨ends, pad, refused⟩ := stops.torn inside written
    exact ⟨ends, torn inside written, pad, refused⟩
  case stored => exact storedBlocks_candidate wf mem
  case newest =>
    have newest := (storedBlocks_getLast? wf).symm.trans last
    exact (newestCandidate_some wf newest).2
  case runOn => exact storedBlocks_precede wf first second
  case stops =>
    have found := (storedBlocks_getLast? wf).symm.trans last
    obtain ⟨walk, stored, -, ends⟩ := storedBlocks_some wf found
    have same : r.stored = walk.reverse := stored
    rw [same, List.head?_reverse] at head
    exact ends c d head next

end Sys2Proof.Machine
end
